-- ==== Sys2Proof/Word.lean ====
section
/-! DEFINITION. The words of the CH-4216: bytes of a telegram and 16-bit checks. Everything the manual
counts or measures (times, temperatures, addresses in tables) is a Nat or an Int instead. -/

namespace Sys2Proof

/-- Eight data bits of a character (R121). -/
abbrev Byte := BitVec 8

/-- A 16-bit check (R131). -/
abbrev Word16 := BitVec 16

end Sys2Proof
end

