-- ==== Sys2Proof/Syntax.lean ====
section
/-! DEFINITION. The commands of the CH-4216: one constructor per row of spec/opcode_table.json. -/

namespace Sys2Proof

/-- The two ports. -/
inductive PortId where
  | trunk
  | branch
  deriving DecidableEq, Repr

/-- Line level after polarity (R121, R138). -/
inductive Level where
  | mark
  | space
  deriving DecidableEq, Repr

/-- State of a contact input: OPEN or CLOSED (R108). -/
inductive ContactState where
  | opened
  | closed
  deriving DecidableEq, Repr

/-- A character as the receiver has decided it (R121 to R123): its eight data bits, its mark bit, the
level of its stop bit, and whether it is flagged NOISE. Its start bit was decided at space. -/
structure LineChar where
  data : Byte
  markBit : Bool
  stopMark : Bool
  noise : Bool
  deriving DecidableEq, Repr

/-- One constructor per row of the table. For an ADMIN request, `src` is the SRC of the ADMIN telegram
and `args` are its argument bytes, those after the request code. -/
inductive Instr where
  /-- POWER_ON_RESET (R187) with the levels of the straps, ADS0 least significant (R190). -/
  | powerOnReset (straps : BitVec 5)
  /-- LOAD_COIL (R2). -/
  | loadCoil (src : Byte) (args : List Byte)
  /-- LOAD_POINT (R9). -/
  | loadPoint (src : Byte) (args : List Byte)
  /-- CLEAR_POINT (R10). -/
  | clearPoint (src : Byte) (args : List Byte)
  /-- LOAD_RULE (R12). -/
  | loadRule (src : Byte) (args : List Byte)
  /-- CLEAR_RULE (R13). -/
  | clearRule (src : Byte) (args : List Byte)
  /-- LOAD_RELAY_SET (R16). -/
  | loadRelaySet (src : Byte) (args : List Byte)
  /-- ENABLE_COIL (R17). -/
  | enableCoil (src : Byte) (args : List Byte)
  /-- DISABLE_COIL (R77). -/
  | disableCoil (src : Byte) (args : List Byte)
  /-- RESET_COIL (R75). -/
  | resetCoil (src : Byte) (args : List Byte)
  /-- SET_PORTS (R176). -/
  | setPorts (src : Byte) (args : List Byte)
  /-- STATUS (R177). -/
  | status (src : Byte) (args : List Byte)
  /-- READ_COUNTERS (R150). -/
  | readCounters (src : Byte) (args : List Byte)
  /-- COMMIT (R173). -/
  | commit (src : Byte) (args : List Byte)
  /-- RESTART (R175). -/
  | restart (src : Byte) (args : List Byte)
  /-- COIL_DETAIL (R178). -/
  | coilDetail (src : Byte) (args : List Byte)
  /-- READ_POINTS (R178). -/
  | readPoints (src : Byte) (args : List Byte)
  /-- READ_ACTUATOR (R104). -/
  | readActuator (src : Byte) (args : List Byte)
  /-- COMMIT_WRITE_END (R185): the write ends in success or failure. -/
  | commitWriteEnd (success : Bool)
  /-- CHARACTER_RECEIVED (R133): the decision of a character's stop bit. -/
  | characterReceived (p : PortId) (ch : LineChar)
  /-- GAP_TIMER_EXPIRY (R134). -/
  | gapTimerExpiry (p : PortId)
  /-- TELEGRAM_COMPLETE (R135): the last character of the telegram in assembly, mark bit clear. -/
  | telegramComplete (p : PortId) (last : Byte) (noise : Bool)
  /-- RESPONSE_TIMEOUT (R162). -/
  | responseTimeout
  /-- TURNAROUND_END (R161). -/
  | turnaroundEnd
  /-- LINE_IDLE_EVENT (R140). -/
  | lineIdleEvent (p : PortId)
  /-- BRANCH_GRANT (R159). -/
  | branchGrant
  /-- TRUNK_TRANSMISSION_BEGIN (R141). -/
  | trunkTransmissionBegin
  /-- COLLISION (R144). -/
  | collision
  /-- BRANCH_LINE_FAULT (R145). -/
  | branchLineFault
  /-- TRUNK_TRANSMISSION_COMPLETE (R146). -/
  | trunkTransmissionComplete
  /-- BRANCH_TRANSMISSION_COMPLETE (R161). -/
  | branchTransmissionComplete
  /-- EVALUATION (R40): the expiry of a coil's evaluation timer. -/
  | evaluation (c : Fin 16)
  /-- DEBOUNCED_CONTACT_CHANGE (R112): an input completes its debounce to a new state. -/
  | debouncedContactChange (i : Fin 16) (newState : ContactState)
  /-- CONTACT_SETTLING (R110). -/
  | contactSettling
  /-- DEBOUNCED_SENSE_CHANGE (R115): the sense input completes its debounce to HIGH or LOW. -/
  | debouncedSenseChange (high : Bool)
  /-- RELEASE_TIMER_EXPIRY (R117). -/
  | releaseTimerExpiry
  /-- POINT_AGE_EXPIRY (R27) of the entry at a point index. -/
  | pointAgeExpiry (i : Fin 96)
  /-- POLL_TIMER_EXPIRY (R29) of the entry at a point index. -/
  | pollTimerExpiry (i : Fin 96)
  /-- REFRESH_TIMER_EXPIRY (R89) of the record at a record index. -/
  | refreshTimerExpiry (r : Fin 48)
  /-- TICK (R109): the levels of the pins FC0 to FC15 (bit i is FCi, 1 is high) and of PTRIP_SNS. -/
  | tick (contacts : BitVec 16) (senseHigh : Bool)
  /-- PLANT_CLOCK_INCREMENT (R22). -/
  | plantClockIncrement
  /-- SAMPLE_AT_SPACE (R140). -/
  | sampleAtSpace (p : PortId)
  /-- SAMPLE_AT_MARK (R123). -/
  | sampleAtMark (p : PortId)
  /-- BREAK_END (R161). -/
  | breakEnd
  deriving DecidableEq, Repr

end Sys2Proof
end

