-- ==== Sys2Proof/Decode.lean ====
section
/-! DEFINITION. The words of commands. spec/opcode_table.json gives no row any bits (its rows carry
no match, mask or fields), so no word spells a command (log 15). -/

namespace Sys2Proof

/-- The command a word spells by the table's bits: the table has none. -/
def decodeTableWord (_nbits _w : Nat) : Option Instr := none

end Sys2Proof
end

