-- ==== Sys2Proof/Config.lean ====
section
/-! DEFINITION. What a plant configures (coil records, point map, override rules, port and global
settings, the settings image) as plain data, the capacities of 00_scope.md, and the values the
manual leaves open, as constants without a body. -/

namespace Sys2Proof

/-- A coil number, coil 0 to coil 15. -/
abbrev CoilId := Fin 16

/-- How a contact is cold for a coil (R1, R112). -/
inductive ContactPolarity where
  | openCold
  | closedCold
  deriving DecidableEq, Repr

/-- The contact field of a coil record: an input and its polarity (R1). -/
structure ContactRef where
  input : Fin 16
  polarity : ContactPolarity
  deriving DecidableEq, Repr

/-- The configuration fields of a coil record in the order of R1's table, but for enabled_in_image,
which the coil record holds beside them (R3). °cC values are Int, times and counts Nat. -/
structure CoilConfig where
  faceQuorum : Nat
  airLimit : Int
  waterLimit : Int
  watchBand : Int
  guardBand : Int
  hysteresis : Int
  hardBand : Int
  tripDose : Nat
  leak : Nat
  lookahead : Nat
  degradeMargin : Int
  watchDwell : Nat
  guardDwell : Nat
  startupHold : Nat
  autoReset : Option Nat
  lockoutCount : Nat
  lockoutWindow : Nat
  blindTripTime : Nat
  blindTripOat : Int
  coldWeatherOat : Option Int
  contact : Option ContactRef
  drivesTripLine : Bool
  followsPlantTrip : Bool
  deriving DecidableEq, Repr

/-- Owner of a point map entry (R6). -/
inductive Owner where
  | coil (c : CoilId)
  | plant
  deriving DecidableEq, Repr

/-- Role of a point map entry; a FACE entry has a face index 1 to 6 (R6). -/
inductive Role where
  | face (index : Nat)
  | water
  | oat
  deriving DecidableEq, Repr

/-- Configuration fields of a point map entry (R6). -/
structure PointConfig where
  station : Nat
  channel : Nat
  owner : Owner
  role : Role
  offset : Int
  maxAge : Nat
  pollInterval : Nat
  deriving DecidableEq, Repr

/-- Role tag of an override rule (R11). -/
inductive RoleTag where
  | heatingValve
  | pump
  | oaDamper
  | fan
  | other
  deriving DecidableEq, Repr

/-- Level of an override rule: W, G or T (R11). -/
inductive RuleLevel where
  | w
  | g
  | t
  deriving DecidableEq, Repr

/-- Mode of an override rule (R11). -/
inductive RuleMode where
  | floor
  | ceiling
  | force
  deriving DecidableEq, Repr

/-- An override rule (R11); its key is (coil, station, channel, level). -/
structure OverrideRule where
  coil : CoilId
  station : Nat
  channel : Nat
  tag : RoleTag
  level : RuleLevel
  mode : RuleMode
  value : Int
  refresh : Nat
  restore : Bool
  deriving DecidableEq, Repr

/-- Line polarity of a port (R137, R138). -/
inductive Polarity where
  | normal
  | inverted
  deriving DecidableEq, Repr

/-- The two settings both ports have (R137). -/
structure PortSettings where
  divisor : Nat
  polarity : Polarity
  deriving DecidableEq, Repr

/-- The four global settings of SET-PORTS (R176). -/
structure GlobalSettings where
  contactDebounce : Nat
  plantTripRelease : Nat
  moderation : Nat
  noticesOn : Bool
  deriving DecidableEq, Repr

/-- The contents of the settings image in the order of R184's table, but for the check word. -/
structure ImageContents where
  relaySet : List Nat
  coils : List (CoilConfig × Bool)
  points : List (Option PointConfig)
  rules : List (Option OverrideRule)
  trunk : PortSettings
  branch : PortSettings
  responseTimeout : Nat
  globals : GlobalSettings
  deriving DecidableEq, Repr

namespace Config

/-- Capacities (00_scope.md, Capacities at a glance). -/
abbrev coilCount : Nat := 16
abbrev pointCapacity : Nat := 96
abbrev ruleCapacity : Nat := 48
abbrev recordCapacity : Nat := 48
abbrev relaySetCapacity : Nat := 32
abbrev relayQueueCapacity : Nat := 7
abbrev trunkPlaces : Nat := 10
abbrev reservedLimit : Nat := 7
abbrev ringCapacity : Nat := 8
abbrev tripHistoryCapacity : Nat := 4

/-- FREE VALUE (DESIGN CHOICE, log 3): what the 32-bit plant clock holds after the second in which
it stood at 4294967295; the manual does not say. Applied to the state's counter of free values. -/
opaque plantClockPastTop : Nat → BitVec 32

/-- FREE VALUE (DESIGN CHOICE, log 7): the bytes of the relay set in the settings image. R184 gives the
order of the image's contents and no byte layout of any of them. -/
opaque imageRelaySet : List Nat → List Byte

/-- FREE VALUE (DESIGN CHOICE, log 7): the bytes of the coil records in the settings image (R184). -/
opaque imageCoils : List (CoilConfig × Bool) → List Byte

/-- FREE VALUE (DESIGN CHOICE, log 7): the bytes of the point map in the settings image (R184). -/
opaque imagePoints : List (Option PointConfig) → List Byte

/-- FREE VALUE (DESIGN CHOICE, log 7): the bytes of the override rules in the settings image (R184). -/
opaque imageRules : List (Option OverrideRule) → List Byte

/-- FREE VALUE (DESIGN CHOICE, log 7): the bytes of the port settings in the settings image (R184): trunk,
branch, branch response timeout. -/
opaque imagePorts : PortSettings → PortSettings → Nat → List Byte

/-- FREE VALUE (DESIGN CHOICE, log 7): the bytes of the global settings in the settings image (R184). -/
opaque imageGlobals : GlobalSettings → List Byte

/-- FREE VALUE (DESIGN CHOICE, log 11): whether the two bytes of a rule's value in LOAD-RULE are a signed
number. R179 makes "actuator command values" signed and all other numbers unsigned, and does not say
which of them a rule's value is. -/
opaque ruleValueSigned : Bool

/-- FREE VALUE (DESIGN CHOICE, log 10): the gap timer after a false start, from the samples it had left
when the first sample at space stopped it. R134 stops it at the first sample of the next character, R122
says that a false start is no character, and neither says how the timer goes on. `none` is stopped. -/
opaque gapAfterFalseStart : Nat → Option Nat

end Config

end Sys2Proof
end

