-- ==== Sys2Proof/Machine/Defaults.lean ====
section
/-! DEFINITION. The defaults of the manual's settings tables: R1 (coil records), R137 (ports) and
R176 (global settings). -/

namespace Sys2Proof.Machine

/-- The defaults of R1's table. -/
def defaultCoilConfig : CoilConfig where
  faceQuorum := 2
  airLimit := 300
  waterLimit := 400
  watchBand := 300
  guardBand := 100
  hysteresis := 50
  hardBand := 200
  tripDose := 3000
  leak := 20
  lookahead := 120
  degradeMargin := 100
  watchDwell := 60
  guardDwell := 300
  startupHold := 120
  autoReset := none
  lockoutCount := 3
  lockoutWindow := 3600
  blindTripTime := 600
  blindTripOat := 500
  coldWeatherOat := none
  contact := none
  drivesTripLine := true
  followsPlantTrip := false

/-- The port defaults of R137: divisor 23, normal polarity. -/
def defaultPortSettings : PortSettings := { divisor := 23, polarity := .normal }

/-- The default branch response timeout of R137, in ms. -/
def defaultResponseTimeout : Nat := 50

/-- The global defaults of R176. -/
def defaultGlobals : GlobalSettings where
  contactDebounce := 4
  plantTripRelease := 10
  moderation := 5
  noticesOn := true

end Sys2Proof.Machine
end

