-- ==== Sys2Proof/Machine/State.lean ====
section
/-! DEFINITION. The state of the CH-4216 as plain data, the reasons a step can stop, and the state
right after a power-on whose image fails its check (R188). -/

namespace Sys2Proof.Machine

/-- The faults. The manual names no event that stops the part, so there is none: safe. -/
inductive Fault where
  deriving DecidableEq, Repr

/-- The refusals. -/
inductive Refusal where
  /-- Raised by exec's arm of a command that has no meaning yet; no arm raises it in this model.
  Safe: a refusal proves nothing about the part. -/
  | notModelled (mnemonic : String)
  deriving DecidableEq, Repr

/-! ### Coils (chapters 1, 3 and 4) -/

/-- Protection states (R58). -/
inductive CoilState where
  | offline
  | startup
  | normal
  | watch
  | guard
  | trip
  | lockout
  deriving DecidableEq, Repr

/-- Causes (R58). -/
inductive Cause where
  | margin
  | coldWeather
  | dose
  | sensing
  | plant
  | reset
  | hard
  | contact
  | blind
  deriving DecidableEq, Repr

/-- Evaluation runtime of a coil (R41) with its Tf history ring, oldest first (R18).
`none` is the mark unknown. -/
structure EvalRuntime where
  n : Nat
  tf : Option Int
  tw : Option Int
  m : Option Int
  slope : Option Int
  mp : Option Int
  dose : Nat
  degraded : Bool
  sensingLost : Bool
  waterInPlace : Bool
  ring : List Int
  deriving DecidableEq, Repr

/-- The evaluation runtime of R56's first three rows. -/
def EvalRuntime.initial : EvalRuntime where
  n := 0
  tf := none
  tw := none
  m := none
  slope := none
  mp := none
  dose := 0
  degraded := false
  sensingLost := false
  waterInPlace := false
  ring := []

/-- A coil record: configuration (R1), enabled_in_image (R3), state machine runtime (R59), evaluation
timer running or stopped (R39), evaluation runtime (R41). -/
structure Coil where
  cfg : CoilConfig
  enabled : Bool
  state : CoilState
  cause : Option Cause
  entryTime : Nat
  dwell : Nat
  unknown : Nat
  autoResetTimer : Nat
  coldWeather : Bool
  tripHistory : List Nat
  evalTimer : Bool
  eval : EvalRuntime
  deriving DecidableEq, Repr

/-- A coil at power-on, before a valid image brings it up (R78, R56). -/
def Coil.atPowerOn (cfg : CoilConfig) (enabled : Bool) : Coil where
  cfg := cfg
  enabled := enabled
  state := .offline
  cause := none
  entryTime := 0
  dwell := 0
  unknown := 0
  autoResetTimer := 0
  coldWeather := false
  tripHistory := []
  evalTimer := false
  eval := .initial

/-! ### Point map (chapter 2) -/

/-- Point states (R22). -/
inductive PointState where
  | awaiting
  | valid
  | stale
  | fault
  deriving DecidableEq, Repr

/-- Runtime of a point map entry (R22). The age expiry is `ageBase + max_age + 1` at all times, so it
is computed (Machine/Points.lean). `pollDue` is the poll timer: stopped, or its due time. -/
structure PointRuntime where
  state : PointState
  lastValue : Option Int
  lastStatus : Option Byte
  lastSample : Option Nat
  lastPoll : Option Nat
  ageBase : Nat
  pollNeed : Bool
  pollDue : Option Nat
  deriving DecidableEq, Repr

/-- A point map entry (R6). -/
structure PointEntry where
  cfg : PointConfig
  rt : PointRuntime
  deriving DecidableEq, Repr

/-! ### Actuator records (chapter 5) -/

/-- A present constraint (R83). -/
structure Constraint where
  lo : Int
  hi : Int
  conflict : Bool
  floorPresent : Bool
  refreshPeriod : Nat
  restoreAsked : Bool
  deriving DecidableEq, Repr

/-- The need of an actuator record with its raising time (section 5.2). -/
inductive Need where
  | none
  | protect (since : Nat)
  | refresh (since : Nat)
  | restore (since : Nat)
  deriving DecidableEq, Repr

/-- An actuator record (R14). `refreshTimer` is stopped, or running with its period (R89). -/
structure ActuatorRecord where
  station : Nat
  channel : Nat
  constraint : Option Constraint
  cmdLast : Option Int
  sentValue : Option Int
  ackedValue : Option Int
  mismatch : Bool
  need : Need
  refreshTimer : Option Nat
  retryNotBefore : Option Nat
  missCount : Nat
  lost : Bool
  deriving DecidableEq, Repr

/-- The initial values of R14. -/
def ActuatorRecord.fresh (station channel : Nat) : ActuatorRecord where
  station := station
  channel := channel
  constraint := none
  cmdLast := none
  sentValue := none
  ackedValue := none
  mismatch := false
  need := .none
  refreshTimer := none
  retryNotBefore := none
  missCount := 0
  lost := false

/-! ### Contacts and trip line (chapter 6) -/

/-- A contact input: debounced state and run count (R108). -/
structure ContactInput where
  debounced : ContactState
  run : Nat
  deriving DecidableEq, Repr

/-- PLANT-TRIP recognition (R116). -/
inductive PlantTrip where
  | clear
  | asserted
  | releasing
  deriving DecidableEq, Repr

/-- The contact and trip-line block. `ticks` counts the ticks taken until the block is settled (R110);
`driven` is the plant trip output (R114); `releaseTimer` is stopped, or its remaining ticks (R117). -/
structure ContactBlock where
  inputs : List ContactInput
  ticks : Nat
  settled : Bool
  driven : Bool
  senseHigh : Bool
  senseRun : Nat
  recognition : PlantTrip
  releaseTimer : Option Nat
  deriving DecidableEq, Repr

/-- The block at power-on (R120). -/
def ContactBlock.atPowerOn : ContactBlock where
  inputs := List.replicate 16 { debounced := .opened, run := 0 }
  ticks := 0
  settled := false
  driven := false
  senseHigh := true
  senseRun := 0
  recognition := .clear
  releaseTimer := none

/-! ### Telegrams and ports (chapters 7 and 8) -/

/-- A telegram (R124) without LEN and CHECK, which its payload and its bytes fix (R131). -/
structure Telegram where
  dest : Byte
  src : Byte
  kind : Byte
  payload : List Byte
  deriving DecidableEq, Repr

/-- Receiver state (section 7.5): in ASSEMBLE the bytes so far; the next position is their number. -/
inductive Receiver where
  | hunt
  | assemble (bytes : List Byte)
  deriving DecidableEq, Repr

/-- A character being sampled (R122): the index of the next sample, 1 to 175, counted from the first
sample of its start bit; the eighth and ninth samples of the present bit; the bits decided so far,
start bit first, `true` for mark; whether the middle samples of a bit have disagreed; and what the
gap timer had left when its first sample stopped it (R134). -/
structure CharSampler where
  index : Nat
  eighth : Level
  ninth : Level
  bits : List Bool
  noise : Bool
  gapLeft : Option Nat
  deriving DecidableEq, Repr

/-- What a transmission under way carries (R146): the first filled trunk telegram, a NOTICE, or the
request of the branch transaction. -/
inductive TxOwner where
  | listHead
  | notice
  | branchRequest
  deriving DecidableEq, Repr

/-- A transmission under way (R141, R142): the bytes of its telegram, whether a resync break comes
before them, the samples elapsed since the first of its preamble, and the eighth and ninth samples
read back in the present bit time (R143). -/
structure Transmission where
  bytes : List Byte
  withBreak : Bool
  elapsed : Nat
  eighth : Level
  ninth : Level
  owner : TxOwner
  deriving DecidableEq, Repr

/-- The counters of R150. A trunk port has no LINE-FAULT, a branch port no COLLISION and no
TRUNK-FULL: those stay 0 there. -/
structure Counters where
  framing : Nat
  breaks : Nat
  noise : Nat
  crc : Nat
  length : Nat
  gap : Nat
  address : Nat
  collision : Nat
  lineFault : Nat
  restart : Nat
  trunkFull : Nat
  deriving DecidableEq, Repr

/-- All counters 0 (R150). -/
def Counters.zero : Counters where
  framing := 0
  breaks := 0
  noise := 0
  crc := 0
  length := 0
  gap := 0
  address := 0
  collision := 0
  lineFault := 0
  restart := 0
  trunkFull := 0

/-- A port (chapter 8) with its receiver (section 7.5). `gapTimer` is stopped, or the samples left;
`spaceRun` is how many samples up to now, at most 176, were all at space (R149). -/
structure Port where
  settings : PortSettings
  receiver : Receiver
  waitMark : Bool
  gapTimer : Option Nat
  sampler : Option CharSampler
  idleCount : Nat
  lineIdle : Bool
  spaceRun : Nat
  errorRun : Nat
  polaritySuspect : Bool
  counters : Counters
  tx : Option Transmission
  deriving DecidableEq, Repr

/-- A port at power-on with given settings (R136, R151). -/
def Port.atPowerOn (settings : PortSettings) : Port where
  settings := settings
  receiver := .hunt
  waitMark := true
  gapTimer := none
  sampler := none
  idleCount := 0
  lineIdle := false
  spaceRun := 0
  errorRun := 0
  polaritySuspect := false
  counters := .zero
  tx := none

/-! ### Relay and branch transaction (chapter 9) -/

/-- What waits for the departure of a filled trunk telegram (R146): nothing, the staged settings of
the last SET-PORTS (R139, R176), or the restart (R175). -/
inductive ReplyRole where
  | plain
  | setPorts
  | restart
  deriving DecidableEq, Repr

/-- A telegram in a filled trunk place (R154). -/
structure OutTelegram where
  telegram : Telegram
  role : ReplyRole
  deriving DecidableEq, Repr

/-- The trunk output list (R154): how many of its ten places are reserved, and the filled ones in
fill order. The others are free. Places are interchangeable, so they carry no number (log 16). -/
structure TrunkOut where
  reserved : Nat
  filled : List OutTelegram
  deriving DecidableEq, Repr

/-- Where a transaction comes from (R161). An own SET names its record by key; `live` turns false when
that record is removed (R15, R99). -/
inductive TxnOrigin where
  | relayed (rewritten : Bool)
  | ownSet (station channel : Nat) (live : Bool)
  | ownRead
  deriving DecidableEq, Repr

/-- The outstanding transaction (R161): the request as sent, its origin, its response timeout in ms. -/
structure Transaction where
  request : Telegram
  origin : TxnOrigin
  timeout : Nat
  deriving DecidableEq, Repr

/-- The transaction states in which a transaction is outstanding (R161). -/
inductive TxnPhase where
  | brk
  | sending
  | awaiting
  | receiving
  deriving DecidableEq, Repr

/-- The transaction state (R161); TURNAROUND holds the samples it has counted. The response timer runs
exactly in AWAITING. -/
inductive TxnState where
  | idle
  | outstanding (phase : TxnPhase) (t : Transaction)
  | turnaround (samples : Nat)
  deriving DecidableEq, Repr

/-! ### Management unit and settings store (chapters 10 and 11) -/

/-- Settings staged by SET-PORTS (R139, R176), and whether its reply has left the trunk. -/
structure Staged where
  trunk : Option PortSettings
  branch : Option (PortSettings × Nat)
  globals : Option GlobalSettings
  replyLeft : Bool
  deriving DecidableEq, Repr

/-- Nothing staged. -/
def Staged.nothing : Staged where
  trunk := none
  branch := none
  globals := none
  replyLeft := false

/-- An item of the notice pending state: clear, set, or set with a carried mark (R180, R182). -/
inductive Mark where
  | clear
  | set
  | carried
  deriving DecidableEq, Repr

/-- The notice pending state (R180): the pending set as one mark per coil, the urgent mark, the five
flags, and the moderation time in ticks. -/
structure Notice where
  coils : List Mark
  urgent : Mark
  contactChange : Mark
  plantTripEvent : Mark
  actuatorLost : Mark
  portRestart : Mark
  fallbackChange : Mark
  moderationTicks : Nat
  deriving DecidableEq, Repr

/-- Empty and clear, the moderation passed (R183). -/
def Notice.atPowerOn : Notice where
  coils := List.replicate 16 .clear
  urgent := .clear
  contactChange := .clear
  plantTripEvent := .clear
  actuatorLost := .clear
  portRestart := .clear
  fallbackChange := .clear
  moderationTicks := 480

/-- A COMMIT in flight: who asked, and the contents being written (R173, R185). -/
structure CommitInFlight where
  requester : Byte
  contents : ImageContents
  deriving DecidableEq, Repr

/-- The condition of the image (R186). An image never written is held as erased (log 6). -/
inductive ImageCondition where
  | valid
  | erased
  | failed
  deriving DecidableEq, Repr

/-- The settings store (R184, R186). -/
structure Store where
  condition : ImageCondition
  contents : Option ImageContents
  checkWord : Option Word16
  deriving DecidableEq, Repr

/-- A store whose image has never been written (R184). -/
def Store.neverWritten : Store where
  condition := .erased
  contents := none
  checkWord := none

/-! ### The whole part -/

/-- The state of the part and the commands waiting for it, first in first out. -/
structure State where
  pending : List Instr
  freeCount : Nat
  plantClock : Nat
  straps : BitVec 5
  fallback : Bool
  coils : List Coil
  points : List (Option PointEntry)
  rules : List (Option OverrideRule)
  records : List (Option ActuatorRecord)
  heldLevels : List Nat
  relaySet : List Nat
  contacts : ContactBlock
  trunk : Port
  branch : Port
  responseTimeout : Nat
  relayQueue : List Telegram
  trunkOut : TrunkOut
  txn : TxnState
  fairness : Nat
  noResponse : Nat
  globals : GlobalSettings
  staged : Staged
  commit : Option CommitInFlight
  restartPending : Bool
  notice : Notice
  store : Store
  deriving DecidableEq, Repr

/-- The part right after power-on in fallback (R188), the image never having been written and the
straps all low. -/
def State.reset : State where
  pending := []
  freeCount := 0
  plantClock := 0
  straps := 0
  fallback := true
  coils := List.replicate 16 (Coil.atPowerOn defaultCoilConfig false)
  points := List.replicate 96 none
  rules := List.replicate 48 none
  records := List.replicate 48 none
  heldLevels := List.replicate 16 0
  relaySet := []
  contacts := .atPowerOn
  trunk := .atPowerOn defaultPortSettings
  branch := .atPowerOn defaultPortSettings
  responseTimeout := defaultResponseTimeout
  relayQueue := []
  trunkOut := { reserved := 0, filled := [] }
  txn := .idle
  fairness := 0
  noResponse := 0
  globals := defaultGlobals
  staged := .nothing
  commit := none
  restartPending := false
  notice := { Notice.atPowerOn with fallbackChange := .set }
  store := .neverWritten

end Sys2Proof.Machine
end

