-- ==== Sys2Proof/Machine/Operands.lean ====
section
/-! DEFINITION. The byte forms of telegrams and management arguments: number encodings (R179), the
check (R131), kinds and lengths (R125 to R127), result codes (R172), argument layouts, and the clamping
of loaded values (R2, R7, R11, R137, R176). -/

namespace Sys2Proof.Machine

/-! ### Numbers -/

/-- Saturation of a quantity stored in 16 bits (00_scope.md, Units and number conventions). -/
def saturate16 (z : Int) : Int :=
  if z > 32767 then 32767 else if z < -32768 then -32768 else z

/-- A number in 2 bytes, most significant first (R179). -/
def be16 (n : Nat) : List Byte := [BitVec.ofNat 8 (n / 256), BitVec.ofNat 8 n]

/-- A signed number in 2 bytes, two's complement (R179). -/
def be16s (z : Int) : List Byte := be16 (z % 65536).toNat

/-- A number in 4 bytes, most significant first (R179). -/
def be32 (n : Nat) : List Byte := be16 (n / 65536) ++ be16 n

/-- The unsigned number of a run of bytes, most significant first (R179). -/
def beNat (bytes : List Byte) : Nat := bytes.foldl (fun acc b => acc * 256 + b.toNat) 0

/-- The signed 16-bit number of an unsigned one, two's complement (R128, R179). -/
def signed16 (n : Nat) : Int := if n < 32768 then (n : Int) else (n : Int) - 65536

/-- A number clamped to the nearest end of a range (00_scope.md). -/
def clampNat (lo hi n : Nat) : Nat := if n < lo then lo else if hi < n then hi else n

/-- A signed number clamped to the nearest end of a range (00_scope.md). -/
def clampInt (lo hi z : Int) : Int := if z < lo then lo else if hi < z then hi else z

/-- A yes/no or set/clear marker as a bit of weight `w`. -/
def bitIf (b : Bool) (w : Nat) : Nat := if b then w else 0

/-- Bit c for entry c of a list (STATUS masks, R179). -/
def maskOf (bits : List Bool) : Nat :=
  bits.foldr (fun b acc => bitIf b 1 + 2 * acc) 0

/-! ### The check (R131) -/

/-- One bit of the check: x^16 + x^12 + x^5 + 1, most significant bit first. -/
def crcShift (c : Word16) : Word16 :=
  if c.msb then (c <<< 1) ^^^ 0x1021#16 else c <<< 1

/-- One byte of the check. -/
def crcByte (c : Word16) (b : Byte) : Word16 :=
  crcShift (crcShift (crcShift (crcShift (crcShift (crcShift (crcShift (crcShift
    (c ^^^ ((b.setWidth 16) <<< 8)))))))))

/-- The check over some bytes: preset all ones, no inversion (R131). -/
def crc16 (bytes : List Byte) : Word16 := bytes.foldl crcByte 0xFFFF#16

/-! ### Telegrams (R124 to R127) -/

/-- Kind codes (R125). -/
abbrev kindRead : Nat := 1
abbrev kindReport : Nat := 2
abbrev kindSet : Nat := 3
abbrev kindApplied : Nat := 4
abbrev kindRefuse : Nat := 5
abbrev kindAdmin : Nat := 6
abbrev kindAdminReply : Nat := 7
abbrev kindNotice : Nat := 8

/-- The ALTERED flag: bit 7 of KIND (R125). -/
abbrev alteredBit : Byte := 0x80#8

/-- The kind code in bits 3 to 0 of a KIND byte (R125). -/
def kindCode (kind : Byte) : Nat := kind.toNat % 16

/-- The kind code of a telegram. -/
def Telegram.code (t : Telegram) : Nat := kindCode t.kind

/-- The bytes covered by the check: DEST through the last payload byte (R131). -/
def Telegram.covered (t : Telegram) : List Byte :=
  [t.dest, t.src, t.kind, BitVec.ofNat 8 t.payload.length] ++ t.payload

/-- All bytes of a telegram as the transmitter sends them, CHECK computed over them (R124, R131). -/
def Telegram.bytes (t : Telegram) : List Byte :=
  t.covered ++ be16 (crc16 t.covered).toNat

/-- LEN allowed for a kind (R127). -/
def lenAllowed (code len : Nat) : Bool :=
  match code with
  | 1 => 1 ≤ len && len ≤ 8
  | 2 => 4 ≤ len && len ≤ 32 && len % 4 == 0
  | 3 => 3 ≤ len && len ≤ 24 && len % 3 == 0
  | 4 => 3 ≤ len && len ≤ 24 && len % 3 == 0
  | 5 => 1 ≤ len && len ≤ 2
  | 6 => 1 ≤ len && len ≤ 48
  | 7 => 2 ≤ len && len ≤ 48
  | 8 => 5 ≤ len && len ≤ 37 && (len - 5) % 2 == 0
  | _ => len ≤ 48

/-- A DEST that is assigned (R126). -/
def addressAssigned (a : Byte) : Bool :=
  (1 ≤ a.toNat && a.toNat ≤ 199) || (200 ≤ a.toNat && a.toNat ≤ 231) || a.toNat == 240

/-- The telegram in a completed assembly and its two CHECK bytes (R124). -/
def assembledTelegram (bytes : List Byte) : Telegram where
  dest := bytes.getD 0 0
  src := bytes.getD 1 0
  kind := bytes.getD 2 0
  payload := (bytes.drop 4).take (bytes.getD 3 0).toNat

/-- The two CHECK bytes of a completed assembly equal the check computed over the others (R131). -/
def checkPasses (bytes : List Byte) : Bool :=
  bytes.drop (bytes.length - 2) == be16 (crc16 (bytes.take (bytes.length - 2))).toNat

/-- Payload items of four bytes of a REPORT: channel, status, value (R128). -/
def reportItems : List Byte → List (Byte × Byte × Int)
  | channel :: status :: hi :: lo :: rest =>
    (channel, status, signed16 (beNat [hi, lo])) :: reportItems rest
  | _ => []

/-- Payload items of three bytes of a SET or APPLIED: channel, value (R128). -/
def settingItems : List Byte → List (Byte × Int)
  | channel :: hi :: lo :: rest => (channel, signed16 (beNat [hi, lo])) :: settingItems rest
  | _ => []

/-- The payload bytes of SET items (R128). -/
def settingBytes (items : List (Byte × Int)) : List Byte :=
  items.flatMap (fun item => item.1 :: be16s item.2)

/-- Supervisor reasons (R129). -/
inductive RefuseReason where
  | noResponse
  | badResponse
  | lineFault
  | busy
  deriving DecidableEq, Repr

/-- Reason codes of R129. -/
def RefuseReason.code : RefuseReason → Byte
  | .noResponse => 0xE1#8
  | .badResponse => 0xE2#8
  | .lineFault => 0xE3#8
  | .busy => 0xE4#8

/-- The supervisor REFUSE that answers a request: LEN 1, addresses exchanged, ALTERED set (R129). Bits 6 to 4
of its KIND, which R125 and R129 leave open for it, are 0 (DESIGN CHOICE, log 29). -/
def supervisorRefuse (request : Telegram) (reason : RefuseReason) : Telegram where
  dest := request.src
  src := request.dest
  kind := alteredBit ||| BitVec.ofNat 8 kindRefuse
  payload := [reason.code]

/-! ### Results (R172) -/

/-- Results of an ADMIN-REPLY (R172). -/
inductive ResultCode where
  | accepted
  | acceptedClamped
  | state
  | full
  | duplicate
  | malformed
  | incomplete
  | notClear
  | notLatched
  | locked
  | latched
  | busy
  | unknown
  | storeFault
  deriving DecidableEq, Repr

/-- The values of R172. -/
def ResultCode.code : ResultCode → Byte
  | .accepted => 0x00#8
  | .acceptedClamped => 0x01#8
  | .state => 0x10#8
  | .full => 0x11#8
  | .duplicate => 0x12#8
  | .malformed => 0x13#8
  | .incomplete => 0x14#8
  | .notClear => 0x15#8
  | .notLatched => 0x16#8
  | .locked => 0x17#8
  | .latched => 0x18#8
  | .busy => 0x19#8
  | .unknown => 0x1A#8
  | .storeFault => 0x1B#8

/-- ACCEPTED, or ACCEPTED-CLAMPED when a value was clamped (00_scope.md). -/
def acceptedIf (clamped : Bool) : ResultCode := if clamped then .acceptedClamped else .accepted

/-! ### Argument layouts (R171, R179) -/

/-- Argument bytes split into fields of the given widths. The list may end at a field boundary;
`none` where it ends inside a field or is longer than the full layout (R171). -/
def splitFields : List Nat → List Byte → Option (List Nat)
  | [], [] => some []
  | [], _ :: _ => none
  | _ :: _, [] => some []
  | w :: ws, b :: bs =>
    if (b :: bs).length < w then none
    else (splitFields ws ((b :: bs).drop w)).map (beNat ((b :: bs).take w) :: ·)

/-- The fields of an argument list of which the first `required` may not be omitted (R171). -/
def parseLayout (widths : List Nat) (required : Nat) (args : List Byte) : Option (List Nat) :=
  match splitFields widths args with
  | none => none
  | some fields => if fields.length < required then none else some fields

/-- Field `i` of an argument list, or the default of an omitted one. -/
def fieldOr (fields : List Nat) (i default : Nat) : Nat := fields.getD i default

/-- A coil number 0 to 15. -/
def coilOf (n : Nat) : Option CoilId := if h : n < 16 then some ⟨n, h⟩ else none

/-- A marker: 0 no, 1 yes (R179). -/
def markerOf (n : Nat) : Option Bool :=
  match n with
  | 0 => some false
  | 1 => some true
  | _ => none

/-- A polarity: 0 normal, 1 inverted (R176). -/
def polarityOf (n : Nat) : Option Polarity :=
  match n with
  | 0 => some .normal
  | 1 => some .inverted
  | _ => none

/-- An owner: coil 0 to 15, PLANT 16 (R179). -/
def ownerOf (n : Nat) : Option Owner :=
  if n = 16 then some .plant else (coilOf n).map .coil

/-- A role: FACE with its face index 1 to 6, WATER 7, OAT 8 (R179). -/
def roleOf (n : Nat) : Option Role :=
  if 1 ≤ n ∧ n ≤ 6 then some (.face n)
  else if n = 7 then some .water
  else if n = 8 then some .oat
  else none

/-- A role tag (R179). -/
def tagOf (n : Nat) : Option RoleTag :=
  match n with
  | 0 => some .heatingValve
  | 1 => some .pump
  | 2 => some .oaDamper
  | 3 => some .fan
  | 4 => some .other
  | _ => none

/-- A rule level (R179). -/
def ruleLevelOf (n : Nat) : Option RuleLevel :=
  match n with
  | 1 => some .w
  | 2 => some .g
  | 3 => some .t
  | _ => none

/-- A mode (R179). -/
def modeOf (n : Nat) : Option RuleMode :=
  match n with
  | 0 => some .floor
  | 1 => some .ceiling
  | 2 => some .force
  | _ => none

/-- The contact byte: absent 0xFF; otherwise input, polarity, and bits 7 to 5 at 0 (R179). -/
def contactOf (n : Nat) : Option (Option ContactRef) :=
  if n = 255 then some none
  else if n < 32 then
    some (some { input := ⟨n % 16, Nat.mod_lt _ (by decide)⟩,
                 polarity := if n < 16 then .openCold else .closedCold })
  else none

/-- A station address 1 to 199 (R6, R11, R16). -/
def isStation (n : Nat) : Bool := 1 ≤ n && n ≤ 199

/-- A channel 0 to 63 (R6, R11). -/
def isChannel (n : Nat) : Bool := n ≤ 63

/-- Owner and role agree: FACE and WATER have a coil, OAT has PLANT (R6). -/
def ownerFitsRole : Owner → Role → Bool
  | .coil _, .face _ => true
  | .coil _, .water => true
  | .plant, .oat => true
  | _, _ => false

/-- Widths of the configuration block (R179). -/
def configWidths : List Nat :=
  [1, 2, 2, 2, 2, 1, 2, 2, 2, 2, 2, 2, 2, 2, 2, 1, 4, 2, 2, 2, 1, 1]

/-- The configuration a LOAD-COIL asks for, before clamping: the fields carried, and R1's defaults for
those omitted (R2). The °cC fields of two bytes are signed (DEDUCED, log 11). `none` where the contact
or the flags byte is outside its encoding. -/
def requestedConfig (f : List Nat) : Option CoilConfig :=
  match contactOf (fieldOr f 20 255) with
  | none => none
  | some contact =>
    let flags := fieldOr f 21 1
    if 4 ≤ flags then none
    else some
      { faceQuorum := fieldOr f 0 2
        airLimit := signed16 (fieldOr f 1 300)
        waterLimit := signed16 (fieldOr f 2 400)
        watchBand := signed16 (fieldOr f 3 300)
        guardBand := signed16 (fieldOr f 4 100)
        hysteresis := fieldOr f 5 50
        hardBand := signed16 (fieldOr f 6 200)
        tripDose := fieldOr f 7 3000
        leak := fieldOr f 8 20
        lookahead := fieldOr f 9 120
        degradeMargin := signed16 (fieldOr f 10 100)
        watchDwell := fieldOr f 11 60
        guardDwell := fieldOr f 12 300
        startupHold := fieldOr f 13 120
        autoReset := if fieldOr f 14 0 = 0 then none else some (fieldOr f 14 0)
        lockoutCount := fieldOr f 15 3
        lockoutWindow := fieldOr f 16 3600
        blindTripTime := fieldOr f 17 600
        blindTripOat := signed16 (fieldOr f 18 500)
        coldWeatherOat :=
          if signed16 (fieldOr f 19 32768) = -32768 then none
          else some (signed16 (fieldOr f 19 32768))
        contact := contact
        drivesTripLine := flags % 2 == 1
        followsPlantTrip := flags / 2 == 1 }

/-- A blind_trip_time: 0 stays 0, any other value is clamped into 60 to 3600 (R2). -/
def clampBlindTripTime (n : Nat) : Nat := if n = 0 then 0 else clampNat 60 3600 n

/-- The clamping of LOAD-COIL in the order of R1's table; guard_band after watch_band (R2). -/
def clampConfig (k : CoilConfig) : CoilConfig :=
  let watchBand := clampInt 0 1000 k.watchBand
  { faceQuorum := clampNat 1 6 k.faceQuorum
    airLimit := clampInt (-1000) 800 k.airLimit
    waterLimit := clampInt (-1500) 1000 k.waterLimit
    watchBand := watchBand
    guardBand := clampInt 0 watchBand k.guardBand
    hysteresis := clampInt 10 200 k.hysteresis
    hardBand := clampInt 50 1000 k.hardBand
    tripDose := clampNat 100 60000 k.tripDose
    leak := clampNat 0 500 k.leak
    lookahead := clampNat 0 600 k.lookahead
    degradeMargin := clampInt 0 500 k.degradeMargin
    watchDwell := clampNat 0 3600 k.watchDwell
    guardDwell := clampNat 30 3600 k.guardDwell
    startupHold := clampNat 10 900 k.startupHold
    autoReset := k.autoReset.map (clampNat 60 3600)
    lockoutCount := clampNat 1 4 k.lockoutCount
    lockoutWindow := clampNat 600 86400 k.lockoutWindow
    blindTripTime := clampBlindTripTime k.blindTripTime
    blindTripOat := clampInt (-4000) 1000 k.blindTripOat
    coldWeatherOat := k.coldWeatherOat.map (clampInt (-4000) 1000)
    contact := k.contact
    drivesTripLine := k.drivesTripLine
    followsPlantTrip := k.followsPlantTrip }

/-- Step 3 of R7: 0 stays 0, 1 becomes 2, more than 900 becomes 900, and a non-zero result above
max_age - 1 is lowered to it. -/
def clampPollInterval (maxAge n : Nat) : Nat :=
  if n = 0 then 0 else min (clampNat 2 900 n) (maxAge - 1)

/-- The clamping of LOAD-POINT (R7). -/
def clampPoint (p : PointConfig) : PointConfig :=
  let maxAge := clampNat 5 900 p.maxAge
  { p with
    offset := clampInt (-200) 200 p.offset
    maxAge := maxAge
    pollInterval := clampPollInterval maxAge p.pollInterval }

/-- The point a LOAD-POINT asks for, before clamping; `none` where an identifier is outside its set or
owner and role disagree (R6). An omitted max_age is 60 and an omitted poll_interval 0. -/
def requestedPoint (f : List Nat) : Option PointConfig :=
  match ownerOf (fieldOr f 2 255), roleOf (fieldOr f 3 255) with
  | some owner, some role =>
    if isStation (fieldOr f 0 0) && isChannel (fieldOr f 1 255) && ownerFitsRole owner role then
      some { station := fieldOr f 0 0, channel := fieldOr f 1 255, owner := owner, role := role,
             offset := signed16 (fieldOr f 4 0), maxAge := fieldOr f 5 60,
             pollInterval := fieldOr f 6 0 }
    else none
  | _, _ => none

/-- The value field of a LOAD-RULE: from 32768 upward its sign is left open (R179, log 11); either reading
is outside 0 to 1000. -/
def ruleValueOf (n : Nat) : Int :=
  if n < 32768 then (n : Int) else if Config.ruleValueSigned then signed16 n else n

/-- The rule a LOAD-RULE asks for, before clamping; `none` where an identifier or marker is outside its
set (R11). An omitted refresh is 60. -/
def requestedRule (f : List Nat) : Option OverrideRule :=
  match coilOf (fieldOr f 0 255), tagOf (fieldOr f 3 255), ruleLevelOf (fieldOr f 4 0),
      modeOf (fieldOr f 5 255), markerOf (fieldOr f 7 255) with
  | some coil, some tag, some level, some mode, some restore =>
    if isStation (fieldOr f 1 0) && isChannel (fieldOr f 2 255) then
      some { coil := coil, station := fieldOr f 1 0, channel := fieldOr f 2 255, tag := tag,
             level := level, mode := mode, value := ruleValueOf (fieldOr f 6 0), refresh := fieldOr f 8 60,
             restore := restore }
    else none
  | _, _, _, _, _ => none

/-- The clamping of LOAD-RULE (R11). -/
def clampRule (r : OverrideRule) : OverrideRule :=
  { r with value := clampInt 0 1000 r.value, refresh := clampNat 5 600 r.refresh }

/-- All settings a SET-PORTS carries (R176). -/
structure PortsRequest where
  trunk : PortSettings
  branch : PortSettings
  responseTimeout : Nat
  globals : GlobalSettings
  deriving DecidableEq, Repr

/-- The settings a SET-PORTS asks for, before clamping; `none` where a polarity or the notices marker
is outside its encoding (R176). -/
def requestedPorts (f : List Nat) : Option PortsRequest :=
  match polarityOf (fieldOr f 1 255), polarityOf (fieldOr f 3 255), markerOf (fieldOr f 8 255) with
  | some trunkPolarity, some branchPolarity, some notices =>
    some { trunk := { divisor := fieldOr f 0 0, polarity := trunkPolarity }
           branch := { divisor := fieldOr f 2 0, polarity := branchPolarity }
           responseTimeout := fieldOr f 4 0
           globals := { contactDebounce := fieldOr f 5 0, plantTripRelease := fieldOr f 6 0,
                        moderation := fieldOr f 7 0, noticesOn := notices } }
  | _, _, _ => none

/-- The clamping of SET-PORTS (R137, R176). -/
def clampPorts (p : PortsRequest) : PortsRequest :=
  { p with
    responseTimeout := clampNat 5 500 p.responseTimeout
    globals :=
      { contactDebounce := clampNat 2 16 p.globals.contactDebounce
        plantTripRelease := clampNat 1 60 p.globals.plantTripRelease
        moderation := clampNat 1 60 p.globals.moderation
        noticesOn := p.globals.noticesOn } }

/-! ### Codes of replies (R179) -/

/-- State codes (R179). -/
def CoilState.code : CoilState → Nat
  | .offline => 0
  | .startup => 1
  | .normal => 2
  | .watch => 3
  | .guard => 4
  | .trip => 5
  | .lockout => 6

/-- Cause codes (R179). -/
def causeCode : Option Cause → Nat
  | none => 0
  | some .margin => 1
  | some .coldWeather => 2
  | some .dose => 3
  | some .sensing => 4
  | some .plant => 5
  | some .reset => 6
  | some .hard => 7
  | some .contact => 8
  | some .blind => 9

/-- Owner codes (R179). -/
def ownerCode : Owner → Nat
  | .coil c => c.val
  | .plant => 16

/-- Role codes (R179). -/
def roleCode : Role → Nat
  | .face i => i
  | .water => 7
  | .oat => 8

/-- Point state codes (R179). -/
def pointStateCode : PointState → Nat
  | .awaiting => 0
  | .valid => 1
  | .stale => 2
  | .fault => 3

/-- The contact byte of a configuration block (R179). -/
def contactCode : Option ContactRef → Nat
  | none => 255
  | some r => r.input.val + (match r.polarity with | .openCold => 0 | .closedCold => 16)

/-- Need codes (R179). -/
def needCode : Need → Nat
  | .none => 0
  | .protect _ => 1
  | .refresh _ => 2
  | .restore _ => 3

/-- One unsigned byte of a reply. -/
def byteOf (n : Nat) : List Byte := [BitVec.ofNat 8 n]

/-- A value that may be unknown or absent, reported as 0 then (R178). -/
def be16sOr0 (v : Option Int) : List Byte := be16s (v.getD 0)

/-- An age or time-since field: the clock less a stored time, saturated at 65535, 0 when absent (R178), and
0 where the clock stands below the stored time (DESIGN CHOICE, log 26). -/
def sinceField (clock : Nat) (time : Option Nat) : List Byte :=
  match time with
  | none => be16 0
  | some t => be16 (min 65535 (clock - t))

/-- The configuration block of 41 bytes (R179), with the bit enabled_in_image of COIL-DETAIL. -/
def configBlock (k : CoilConfig) (enabled : Bool) : List Byte :=
  byteOf k.faceQuorum ++ be16s k.airLimit ++ be16s k.waterLimit ++ be16s k.watchBand ++
  be16s k.guardBand ++ byteOf k.hysteresis.toNat ++ be16s k.hardBand ++ be16 k.tripDose ++
  be16 k.leak ++ be16 k.lookahead ++ be16s k.degradeMargin ++ be16 k.watchDwell ++
  be16 k.guardDwell ++ be16 k.startupHold ++ be16 (k.autoReset.getD 0) ++ byteOf k.lockoutCount ++
  be32 k.lockoutWindow ++ be16 k.blindTripTime ++ be16s k.blindTripOat ++
  be16s (k.coldWeatherOat.getD (-32768)) ++ byteOf (contactCode k.contact) ++
  byteOf (bitIf k.drivesTripLine 1 + bitIf k.followsPlantTrip 2 + bitIf enabled 16)

/-- Exactly `n` slots of a list, the unused ones filled (R179). -/
def padTo {α : Type} (n : Nat) (fill : α) (xs : List α) : List α :=
  (xs ++ List.replicate n fill).take n

end Sys2Proof.Machine
end

