-- ==== Sys2Proof/Machine/Flags.lean ====
section
/-! DEFINITION. Derived conditions and flags: levels and latches of coils (R58), marks of the notice
pending state (R180, R182), what a contact input reads and how it is cold (R108, R113), the outdoor
point (R63, R66), the self-driving condition (R114). -/

namespace Sys2Proof.Machine

/-- The protection level of a state (R58). -/
def CoilState.level : CoilState → Nat
  | .offline => 0
  | .startup => 2
  | .normal => 0
  | .watch => 1
  | .guard => 2
  | .trip => 3
  | .lockout => 3

/-- In TRIP or LOCKOUT (R58). -/
def CoilState.latched : CoilState → Bool
  | .trip => true
  | .lockout => true
  | _ => false

/-- The level of a rule: W is 1, G is 2, T is 3 (R82). -/
def ruleLevelNat : RuleLevel → Nat
  | .w => 1
  | .g => 2
  | .t => 3

/-- The record of a coil. -/
def State.coil (s : State) (c : CoilId) : Coil :=
  s.coils.getD c.val (Coil.atPowerOn defaultCoilConfig false)

/-- A port. -/
def State.port (s : State) : PortId → Port
  | .trunk => s.trunk
  | .branch => s.branch

/-- The own address: 200 plus the value of the straps (R190). -/
def State.ownAddress (s : State) : Byte := BitVec.ofNat 8 (200 + s.straps.toNat)

/-! ### Marks (R182) -/

/-- The item is pending, with a carried mark or without. -/
def Mark.isSet : Mark → Bool
  | .clear => false
  | .set => true
  | .carried => true

/-- A NOTICE is built: what is set is carried (R182). -/
def Mark.carry : Mark → Mark
  | .clear => .clear
  | .set => .carried
  | .carried => .carried

/-- The NOTICE has left intact: what is still carried is cleared (R182). -/
def Mark.depart : Mark → Mark
  | .clear => .clear
  | .set => .set
  | .carried => .clear

/-- The NOTICE is lost, or a RESTART takes effect: carried marks are removed (R175, R182). -/
def Mark.uncarry : Mark → Mark
  | .clear => .clear
  | .set => .set
  | .carried => .set

/-- A change of every mark of the notice pending state; the moderation time stays. -/
def Notice.mapMarks (n : Notice) (f : Mark → Mark) : Notice where
  coils := n.coils.map f
  urgent := f n.urgent
  contactChange := f n.contactChange
  plantTripEvent := f n.plantTripEvent
  actuatorLost := f n.actuatorLost
  portRestart := f n.portRestart
  fallbackChange := f n.fallbackChange
  moderationTicks := n.moderationTicks

/-- The notice pending state is non-empty: a coil in the set or any of the five flags (R180). -/
def Notice.nonEmpty (n : Notice) : Bool :=
  n.coils.any Mark.isSet || n.contactChange.isSet || n.plantTripEvent.isSet ||
  n.actuatorLost.isSet || n.portRestart.isSet || n.fallbackChange.isSet

/-! ### Contacts (R108, R113) -/

/-- What an input reads: its debounced state while the block is settled, nothing before (R108). -/
def ContactBlock.reads (b : ContactBlock) (i : Fin 16) : Option ContactState :=
  if b.settled then (b.inputs[i.val]?).map ContactInput.debounced else none

/-- The state that is cold for a polarity (R113). -/
def coldState : ContactPolarity → ContactState
  | .openCold => .opened
  | .closedCold => .closed

/-- The contact a coil record names reads its cold state (R113); false where none is named. -/
def contactCold (b : ContactBlock) (k : CoilConfig) : Bool :=
  match k.contact with
  | none => false
  | some r => b.reads r.input == some (coldState r.polarity)

/-- The record names no contact, or its input reads the state that is not cold (R74). -/
def contactClear (b : ContactBlock) (k : CoilConfig) : Bool :=
  match k.contact with
  | none => true
  | some r =>
    match b.reads r.input with
    | none => false
    | some c => c != coldState r.polarity

/-- The clear conditions of R74 for a coil. -/
def clearConditions (b : ContactBlock) (k : Coil) : Bool :=
  contactClear b k.cfg &&
  match k.eval.m with
  | none => false
  | some m => 0 ≤ m

/-- A contact input reads OPEN (R114). -/
def ContactBlock.anyReadsOpen (b : ContactBlock) : Bool :=
  b.settled && b.inputs.any (fun i => i.debounced == .opened)

/-- A latched coil drives the trip line (R114). -/
def Coil.drives (k : Coil) : Bool := k.cfg.drivesTripLine && k.state.latched

/-- The condition under which the plant trip output is driven (R114). -/
def State.wantsDrive (s : State) : Bool :=
  s.coils.any Coil.drives || (s.fallback && s.contacts.anyReadsOpen)

/-- Plant hold of a coil (R64). -/
def plantHold (b : ContactBlock) (k : CoilConfig) : Bool :=
  k.followsPlantTrip && (b.recognition != .clear)

/-! ### Points as their readers see them (R35) -/

/-- A VALID entry's last value plus its offset (R35, R42). -/
def PointEntry.reading (e : PointEntry) : Option Int :=
  if e.rt.state = .valid then e.rt.lastValue.map (· + e.cfg.offset) else none

/-- The OAT entry of the point map (R8: at most one). -/
def State.oatEntry (s : State) : Option PointEntry :=
  (s.points.filterMap id).find? (fun e => e.cfg.role == .oat)

/-- No OAT entry, or one that is not VALID, or one whose reading is below a limit (R63, R66). -/
def State.oatColdOrLost (s : State) (limit : Int) : Bool :=
  match s.oatEntry.bind PointEntry.reading with
  | none => true
  | some t => t < limit

end Sys2Proof.Machine
end

