-- ==== Sys2Proof/Machine/Ops.lean ====
section
/-! DEFINITION. The named operations every command is made of: updates of the state, the notice
pending state (R180), the trunk output list (R154 to R157), the plant trip output with the freeze of
PLANT-TRIP recognition (R114 to R118), constraints and needs of actuator records (R82 to R89), changes
of a coil's state (R60), trips (R65), and the entry into STARTUP (R68). -/

namespace Sys2Proof.Machine

/-! ### Named updates of one field of the state -/

/-- The state with another `pending`. -/
def State.withPending (s : State) (x : List Instr) : State := { s with pending := x }

/-- The state with another `freeCount`. -/
def State.withFreeCount (s : State) (x : Nat) : State := { s with freeCount := x }

/-- The state with another `plantClock`. -/
def State.withPlantClock (s : State) (x : Nat) : State := { s with plantClock := x }

/-- The state with another `fallback`. -/
def State.withFallback (s : State) (x : Bool) : State := { s with fallback := x }

/-- The state with another `coils`. -/
def State.withCoils (s : State) (x : List Coil) : State := { s with coils := x }

/-- The state with another `points`. -/
def State.withPoints (s : State) (x : List (Option PointEntry)) : State := { s with points := x }

/-- The state with another `rules`. -/
def State.withRules (s : State) (x : List (Option OverrideRule)) : State := { s with rules := x }

/-- The state with another `records`. -/
def State.withRecords (s : State) (x : List (Option ActuatorRecord)) : State := { s with records := x }

/-- The state with another `heldLevels`. -/
def State.withHeldLevels (s : State) (x : List Nat) : State := { s with heldLevels := x }

/-- The state with another `relaySet`. -/
def State.withRelaySet (s : State) (x : List Nat) : State := { s with relaySet := x }

/-- The state with another `contacts`. -/
def State.withContacts (s : State) (x : ContactBlock) : State := { s with contacts := x }

/-- The state with another `trunk`. -/
def State.withTrunk (s : State) (x : Port) : State := { s with trunk := x }

/-- The state with another `branch`. -/
def State.withBranch (s : State) (x : Port) : State := { s with branch := x }

/-- The state with another `responseTimeout`. -/
def State.withResponseTimeout (s : State) (x : Nat) : State := { s with responseTimeout := x }

/-- The state with another `relayQueue`. -/
def State.withRelayQueue (s : State) (x : List Telegram) : State := { s with relayQueue := x }

/-- The state with another `trunkOut`. -/
def State.withTrunkOut (s : State) (x : TrunkOut) : State := { s with trunkOut := x }

/-- The state with another `txn`. -/
def State.withTxn (s : State) (x : TxnState) : State := { s with txn := x }

/-- The state with another `fairness`. -/
def State.withFairness (s : State) (x : Nat) : State := { s with fairness := x }

/-- The state with another `noResponse`. -/
def State.withNoResponse (s : State) (x : Nat) : State := { s with noResponse := x }

/-- The state with another `globals`. -/
def State.withGlobals (s : State) (x : GlobalSettings) : State := { s with globals := x }

/-- The state with another `staged`. -/
def State.withStaged (s : State) (x : Staged) : State := { s with staged := x }

/-- The state with another `commit`. -/
def State.withCommit (s : State) (x : Option CommitInFlight) : State := { s with commit := x }

/-- The state with another `restartPending`. -/
def State.withRestartPending (s : State) (x : Bool) : State := { s with restartPending := x }

/-- The state with another `notice`. -/
def State.withNotice (s : State) (x : Notice) : State := { s with notice := x }

/-- The state with another `store`. -/
def State.withStore (s : State) (x : Store) : State := { s with store := x }

/-- The state with another record of coil `c`. -/
def State.setCoil (s : State) (c : CoilId) (k : Coil) : State := s.withCoils (s.coils.set c.val k)

/-- The state with another port. -/
def State.setPort (s : State) (p : PortId) (x : Port) : State :=
  match p with
  | .trunk => s.withTrunk x
  | .branch => s.withBranch x

/-- A port changed in place. -/
def State.updatePort (s : State) (p : PortId) (f : Port → Port) : State := s.setPort p (f (s.port p))

/-- The counters of a port changed in place. -/
def State.count (s : State) (p : PortId) (f : Counters → Counters) : State :=
  s.updatePort p (fun x => { x with counters := f x.counters })

/-- The increase of a counter (R150). -/
def bump (n : Nat) : Nat := if n < 65535 then n + 1 else n

/-- The lowest free index of a table (R9, R12, R14). -/
def lowestFree {α : Type} (table : List (Option α)) : Option Nat := table.findIdx? Option.isNone

/-- An entry of a table, `none` where the index is free or beyond it. -/
def entryAt {α : Type} (table : List (Option α)) (i : Nat) : Option α := (table[i]?).bind id

/-! ### The notice pending state (R180, R182) -/

/-- A coil joins the pending set, or loses its carried mark there (R180, R182). -/
def State.raiseCoil (s : State) (c : CoilId) : State :=
  s.withNotice { s.notice with coils := s.notice.coils.set c.val .set }

/-- The urgent mark is set, without a carried mark (R60, R182). -/
def State.raiseUrgent (s : State) : State := s.withNotice { s.notice with urgent := .set }

/-- The contact change flag is set (R112). -/
def State.raiseContactChange (s : State) : State :=
  s.withNotice { s.notice with contactChange := .set }

/-- The plant-trip event is set (R116, R119). -/
def State.raisePlantTripEvent (s : State) : State :=
  s.withNotice { s.notice with plantTripEvent := .set }

/-- The actuator LOST flag is set (R100). -/
def State.raiseActuatorLost (s : State) : State :=
  s.withNotice { s.notice with actuatorLost := .set }

/-- The port-restart flag is set (R148). -/
def State.raisePortRestart (s : State) : State :=
  s.withNotice { s.notice with portRestart := .set }

/-- The fallback change flag is set (R188, R189). -/
def State.raiseFallbackChange (s : State) : State :=
  s.withNotice { s.notice with fallbackChange := .set }

/-! ### The trunk output list (R154 to R157) -/

/-- Places in use. -/
def TrunkOut.used (l : TrunkOut) : Nat := l.reserved + l.filled.length

/-- A free place stands. -/
def TrunkOut.hasFree (l : TrunkOut) : Bool := l.used < Config.trunkPlaces

/-- A place can be reserved: a free place, and fewer than 7 reserved (R155). -/
def TrunkOut.canReserve (l : TrunkOut) : Bool := l.hasFree && l.reserved < Config.reservedLimit

/-- One free place becomes reserved (R155, R157). -/
def State.reservePlace (s : State) : State :=
  s.withTrunkOut { s.trunkOut with reserved := s.trunkOut.reserved + 1 }

/-- A reserved place is filled and takes its position in the fill order (R154). -/
def State.fillReserved (s : State) (t : OutTelegram) : State :=
  s.withTrunkOut { reserved := s.trunkOut.reserved - 1, filled := s.trunkOut.filled ++ [t] }

/-- A refusal fills a free place; with none free it is dropped and TRUNK-FULL counted (R156). -/
def State.fillFreeOrDrop (s : State) (t : Telegram) : State :=
  if s.trunkOut.hasFree then
    s.withTrunkOut { s.trunkOut with filled := s.trunkOut.filled ++ [{ telegram := t, role := .plain }] }
  else s.count .trunk (fun k => { k with trunkFull := bump k.trunkFull })

/-! ### The plant trip output and PLANT-TRIP recognition (R114 to R118) -/

/-- ASSERTED to RELEASING: the release timer starts with its full period, in ticks (R116, R117), and
the plant-trip event is set (R119). -/
def State.startReleasing (s : State) : State :=
  (s.withContacts { s.contacts with
    recognition := .releasing, releaseTimer := some (8 * s.globals.plantTripRelease) }).raisePlantTripEvent

/-- The end of the freeze: the drive is released, the sense becomes HIGH with run count 0, and the
recognition is tested against it (R118). -/
def State.releaseDrive (s : State) : State :=
  let s1 := s.withContacts { s.contacts with driven := false, senseHigh := true, senseRun := 0 }
  if s.contacts.recognition = .asserted then s1.startReleasing else s1

/-- The drive is derived anew (R114); a change of it begins or ends the freeze (R118). -/
def State.deriveTripOutput (s : State) : State :=
  if s.wantsDrive = s.contacts.driven then s
  else if s.wantsDrive then s.withContacts { s.contacts with driven := true }
  else s.releaseDrive

/-- A debounced sense change (R115): taken by the recognition only while the part does not drive
(R116, R118). -/
def State.changeSense (s : State) (high : Bool) : State :=
  let s1 := s.withContacts { s.contacts with senseHigh := high, senseRun := 0 }
  if s.contacts.driven then s1
  else
    match s.contacts.recognition, high with
    | .clear, false =>
      (s1.withContacts { s1.contacts with recognition := .asserted }).raisePlantTripEvent
    | .asserted, true => s1.startReleasing
    | .releasing, false =>
      (s1.withContacts { s1.contacts with recognition := .asserted, releaseTimer := none }).raisePlantTripEvent
    | _, _ => s1

/-- The release timer expires: RELEASING to CLEAR (R116, R117), unless the part drives (R118) or the
timer is stopped. -/
def State.expireRelease (s : State) : State :=
  if s.contacts.recognition = .releasing ∧ s.contacts.driven = false ∧ s.contacts.releaseTimer.isSome then
    (s.withContacts { s.contacts with recognition := .clear, releaseTimer := none }).raisePlantTripEvent
  else s

/-! ### Constraints and needs of actuator records (R82 to R89) -/

/-- A rule names a (station, channel) pair. -/
def ruleNames (r : OverrideRule) (station channel : Nat) : Bool :=
  r.station == station && r.channel == channel

/-- The rule is active: the held level of its coil is at least its level (R82). -/
def ruleActive (heldLevels : List Nat) (r : OverrideRule) : Bool :=
  ruleLevelNat r.level ≤ heldLevels.getD r.coil.val 0

/-- The active rules that name a pair. -/
def activeRules (rules : List (Option OverrideRule)) (heldLevels : List Nat) (station channel : Nat) :
    List OverrideRule :=
  (rules.filterMap id).filter (fun r => ruleNames r station channel && ruleActive heldLevels r)

/-- FLOOR or FORCE (R83). -/
def isFloor (r : OverrideRule) : Bool := r.mode != .ceiling

/-- CEILING or FORCE (R83). -/
def isCeiling (r : OverrideRule) : Bool := r.mode != .floor

/-- The constraint that a set of active rules gives: absent for none, else the parts of R83. -/
def constraintOf (active : List OverrideRule) : Option Constraint :=
  match active with
  | [] => none
  | first :: rest =>
    let lo := ((active.filter isFloor).map OverrideRule.value).foldl max 0
    let hi := ((active.filter isCeiling).map OverrideRule.value).foldl min 1000
    some { lo := lo, hi := hi, conflict := decide (hi < lo), floorPresent := active.any isFloor,
           refreshPeriod := (rest.map OverrideRule.refresh).foldl min first.refresh,
           restoreAsked := active.any OverrideRule.restore }

/-- The value given to an actuator under a present constraint (R84). -/
def Constraint.out (k : Constraint) (cmd : Option Int) : Int :=
  match cmd with
  | some v =>
    if k.hi < k.lo then k.lo
    else
      let v := clampInt 0 1000 v
      if v < k.lo then k.lo else if k.hi < v then k.hi else v
  | none => if k.floorPresent then k.lo else k.hi

/-- PROTECT with its raising time kept when it was PROTECT already (R86, R96). -/
def Need.toProtect (n : Need) (clock : Nat) : Need :=
  match n with
  | .protect since => .protect since
  | _ => .protect clock

/-- The need after a recomputation or echo that leaves the constraint present (R86, R96). -/
def needUnder (k : Constraint) (r : ActuatorRecord) (clock : Nat) : Need :=
  if r.ackedValue = some (k.out r.cmdLast) then .none else r.need.toProtect clock

/-- The need after a recomputation that leaves the constraint absent (R87). -/
def needReleased (r : ActuatorRecord) (clock : Nat) : Need :=
  match r.constraint with
  | none => r.need
  | some before =>
    if before.restoreAsked ∧ r.cmdLast.isSome ∧ r.ackedValue ≠ r.cmdLast then .restore clock else .none

/-- The recomputation of one record from the rules active at that moment (R85 to R87, R89). -/
def recomputeRecord (rules : List (Option OverrideRule)) (heldLevels : List Nat) (clock : Nat)
    (r : ActuatorRecord) : ActuatorRecord :=
  match constraintOf (activeRules rules heldLevels r.station r.channel) with
  | some k =>
    { r with constraint := some k, need := needUnder k r clock, refreshTimer := some k.refreshPeriod }
  | none => { r with constraint := none, need := needReleased r clock, refreshTimer := none }

/-- The recomputation of the records that meet a condition, each on its own (R85). -/
def State.recomputeWhere (s : State) (named : ActuatorRecord → Bool) : State :=
  s.withRecords (s.records.map (Option.map (fun r =>
    if named r then recomputeRecord s.rules s.heldLevels s.plantClock r else r)))

/-- A record is named by at least one rule of a coil (R85). -/
def namedByCoil (rules : List (Option OverrideRule)) (c : CoilId) (r : ActuatorRecord) : Bool :=
  (rules.filterMap id).any (fun q => q.coil == c && ruleNames q r.station r.channel)

/-- A coil hands over a new level: the held level changes and its records are recomputed (R82, R85). -/
def State.handLevel (s : State) (c : CoilId) (level : Nat) : State :=
  (s.withHeldLevels (s.heldLevels.set c.val level)).recomputeWhere (namedByCoil s.rules c)

/-! ### Changes of a coil's state (R60, R65, R68) -/

/-- The new state and cause are stored, with the entry time, and the dwell timer starts from 0 (R60). -/
def State.storeState (s : State) (c : CoilId) (new : CoilState) (cause : Option Cause) : State :=
  s.setCoil c { s.coil c with state := new, cause := cause, entryTime := s.plantClock, dwell := 0 }

/-- The level is handed over when it differs from the old one (R60). -/
def State.handLevelFrom (s : State) (c : CoilId) (old new : Nat) : State :=
  if new = old then s else s.handLevel c new

/-- The coil joins the pending set; an entry into TRIP or LOCKOUT sets the urgent mark too (R60). -/
def State.reportEntry (s : State) (c : CoilId) (new : CoilState) : State :=
  if new.latched then (s.raiseCoil c).raiseUrgent else s.raiseCoil c

/-- A coil's change of state (R60): state, cause, entry time and dwell; the level when it differs; the
trip output; the pending set; the urgent mark on entry into TRIP or LOCKOUT. -/
def State.enterState (s : State) (c : CoilId) (new : CoilState) (cause : Option Cause) : State :=
  ((s.storeState c new cause).handLevelFrom c (s.coil c).state.level new.level).deriveTripOutput.reportEntry
    c new

/-- A change of cause with no change of state (R60). -/
def State.changeCause (s : State) (c : CoilId) (cause : Cause) : State :=
  let k := s.coil c
  if k.cause = some cause then s else (s.setCoil c { k with cause := some cause }).raiseCoil c

/-- The trip history with a new time at its newest end, at most 4 (R19). -/
def appendTrip (history : List Nat) (t : Nat) : List Nat :=
  if history.length < Config.tripHistoryCapacity then history ++ [t]
  else (history ++ [t]).drop (history.length + 1 - Config.tripHistoryCapacity)

/-- How many times of a history lie within the lockout window of `t` (R65). A time that the clock stands
below counts (DESIGN CHOICE, log 26). -/
def tripsWithin (history : List Nat) (t window : Nat) : Nat :=
  (history.filter (fun x => t - x ≤ window)).length

/-- A coil trips with a cause: TRIP, or LOCKOUT by the count within lockout_window (R65). -/
def State.tripCoil (s : State) (c : CoilId) (cause : Cause) : State :=
  let k := s.coil c
  let history := appendTrip k.tripHistory s.plantClock
  let s1 := s.setCoil c { k with tripHistory := history, autoResetTimer := 0 }
  if k.cfg.lockoutCount ≤ tripsWithin history s.plantClock k.cfg.lockoutWindow then
    s1.enterState c .lockout (some cause)
  else s1.enterState c .trip (some cause)

/-- The entry into STARTUP (R68, R56, R39). -/
def State.enterStartup (s : State) (c : CoilId) : State :=
  (s.setCoil c { s.coil c with
    unknown := 0, autoResetTimer := 0, coldWeather := false, eval := .initial, evalTimer := true }).enterState
      c .startup none

/-- D becomes 0 and the coil enters GUARD with cause RESET (R74, R76). -/
def State.resetToGuard (s : State) (c : CoilId) : State :=
  let k := s.coil c
  (s.setCoil c { k with autoResetTimer := 0, eval := { k.eval with dose := 0 } }).enterState
    c .guard (some .reset)

/-- All coil numbers, ascending. -/
def coilIds : List CoilId := List.finRange 16

end Sys2Proof.Machine
end

