-- ==== Sys2Proof/Machine/Evaluation.lean ====
section
/-! DEFINITION. The evaluation of a coil (chapter 3) and the command EVALUATION. The state machine takes
its indication in Machine/Protection.lean. -/

namespace Sys2Proof.Machine

/-- The results of the trip test (R51). -/
inductive TripResult where
  | hard
  | dose
  | none
  deriving DecidableEq, Repr

/-- The indication handed to the protection state machine (R54). The watch demand, when present, is
always MARGIN (R52). -/
structure Indication where
  trip : TripResult
  guardDemand : Option Cause
  watchDemand : Bool
  guardClearance : Bool
  watchClearance : Bool
  faceCount : Nat
  waterInPlace : Bool
  deriving DecidableEq, Repr

/-- The point map entries a coil owns in a role. -/
def State.ownedBy (s : State) (c : CoilId) (inRole : Role → Bool) : List PointEntry :=
  (s.points.filterMap id).filter (fun e => e.cfg.owner == .coil c && inRole e.cfg.role)

/-- FACE, whatever the face index. -/
def Role.isFace : Sys2Proof.Role → Bool
  | .face _ => true
  | _ => false

/-- WATER. -/
def Role.isWater : Sys2Proof.Role → Bool
  | .water => true
  | _ => false

/-- The adjusted values of the coil's VALID FACE entries (R42). -/
def State.faceValues (s : State) (c : CoilId) : List Int :=
  (s.ownedBy c Role.isFace).filterMap PointEntry.reading

/-- The coil's WATER entry (R8: at most one). -/
def State.waterEntry (s : State) (c : CoilId) : Option PointEntry := (s.ownedBy c Role.isWater).head?

/-- Tw: the reading of a VALID WATER entry, stored saturated (R44). -/
def waterTemperature (water : Option PointEntry) : Option Int :=
  (water.bind PointEntry.reading).map saturate16

/-- Water in place: no WATER entry, or a VALID one (R44). -/
def waterIsInPlace (water : Option PointEntry) : Bool :=
  match water with
  | none => true
  | some e => e.rt.state == .valid

/-- Tf from the adjusted values (R43). -/
def faceTemperature (k : CoilConfig) (values : List Int) : Option Int :=
  match values with
  | [] => none
  | v :: vs =>
    let least := vs.foldl min v
    if k.faceQuorum ≤ (v :: vs).length then some (saturate16 least)
    else some (saturate16 (least - k.degradeMargin))

/-- M: the smaller of the known terms (R45). -/
def margin (k : CoilConfig) (tf tw : Option Int) : Option Int :=
  match tf, tw with
  | some f, some w => some (saturate16 (min (f - k.airLimit) (w - k.waterLimit)))
  | some f, none => some (saturate16 (f - k.airLimit))
  | none, some w => some (saturate16 (w - k.waterLimit))
  | none, none => none

/-- The Tf history ring after the ring stage (R47, R18). -/
def ringAfter (ring : List Int) (tf : Option Int) : List Int :=
  match tf with
  | none => []
  | some v =>
    if ring.length < Config.ringCapacity then ring ++ [v]
    else (ring ++ [v]).drop (ring.length + 1 - Config.ringCapacity)

/-- S from the ring after the ring stage (R48); division truncates toward zero. -/
def slopeOf (ring : List Int) (tf : Option Int) : Option Int :=
  match tf with
  | none => none
  | some _ =>
    if ring.length < 4 then some 0
    else some (saturate16 (Int.tdiv (ring.getLastD 0 - ring.headD 0) ((ring.length : Int) - 1)))

/-- Mp (R49). -/
def predictedMargin (k : CoilConfig) (m slope : Option Int) : Option Int :=
  match m, slope with
  | none, _ => none
  | some m, none => some m
  | some m, some sl => some (saturate16 (m + min sl 0 * (k.lookahead : Int)))

/-- D after the dose stage (R50). -/
def doseAfter (k : CoilConfig) (dose : Nat) (mp : Option Int) : Nat :=
  match mp with
  | none => dose
  | some mp =>
    if mp < 0 then min (dose + (-mp).toNat) (4 * k.tripDose)
    else dose - (mp.toNat + k.leak)

/-- The stages of sections 3.2 to 3.7 in their order: the results stored by an evaluation (R40). -/
def evaluated (k : CoilConfig) (values : List Int) (water : Option PointEntry) (e : EvalRuntime) :
    EvalRuntime :=
  let tf := faceTemperature k values
  let tw := waterTemperature water
  let m := margin k tf tw
  let ring := ringAfter e.ring tf
  let slope := slopeOf ring tf
  let mp := predictedMargin k m slope
  { n := values.length
    tf := tf
    tw := tw
    m := m
    slope := slope
    mp := mp
    dose := doseAfter k e.dose mp
    degraded := values.length < k.faceQuorum || values.isEmpty
    sensingLost := m.isNone
    waterInPlace := waterIsInPlace water
    ring := ring }

/-- M is known and at the hard band or deeper (R51). -/
def atHardBand (k : CoilConfig) (e : EvalRuntime) : Bool :=
  match e.m with
  | some m => m ≤ -k.hardBand
  | none => false

/-- The trip test (R51). -/
def tripResultOf (k : CoilConfig) (e : EvalRuntime) : TripResult :=
  if atHardBand k e then .hard
  else if k.tripDose ≤ e.dose then .dose
  else .none

/-- Mp is known and below a band (R52). -/
def mpBelow (e : EvalRuntime) (band : Int) : Bool :=
  match e.mp with
  | some mp => mp < band
  | none => false

/-- D is 0, Mp is known and Mp is a band plus hysteresis or more (R53). -/
def clearedAbove (k : CoilConfig) (e : EvalRuntime) (band : Int) : Bool :=
  e.dose == 0 &&
  match e.mp with
  | some mp => band + k.hysteresis ≤ mp
  | none => false

/-- The indication that the stored results give (R51 to R54). -/
def indicationOf (k : CoilConfig) (e : EvalRuntime) : Indication where
  trip := tripResultOf k e
  guardDemand :=
    if e.sensingLost then some .sensing
    else if mpBelow e k.guardBand then some .margin
    else if 0 < e.dose then some .dose
    else none
  watchDemand := mpBelow e k.watchBand
  guardClearance := clearedAbove k e k.guardBand
  watchClearance := clearedAbove k e k.watchBand
  faceCount := e.n
  waterInPlace := e.waterInPlace

end Sys2Proof.Machine
end

