-- ==== Sys2Proof/Machine/Protection.lean ====
section
/-! DEFINITION. The protection state machine as it takes an indication (chapter 4) and a contact change
(R67), and the command EVALUATION. -/

namespace Sys2Proof.Machine

/-- The timers and COLD-WEATHER as R61 to R63 set them before any test: dwell and unknown stop at 65535. -/
def advanceTimers (coldWeather : Bool) (k : Coil) : Coil :=
  { k with
    dwell := min 65535 (k.dwell + 1)
    unknown := if k.eval.sensingLost then min 65535 (k.unknown + 1) else 0
    coldWeather := coldWeather }

/-- COLD-WEATHER of a coil as the OAT entry stands (R63). -/
def State.coldWeatherFor (s : State) (k : CoilConfig) : Bool :=
  match k.coldWeatherOat with
  | none => false
  | some limit => s.oatColdOrLost limit

/-- The cause of the guard condition, when it holds (R64). -/
def guardCondition (b : ContactBlock) (k : CoilConfig) (ind : Indication) : Option Cause :=
  match ind.guardDemand with
  | some cause => some cause
  | none => if plantHold b k then some .plant else none

/-- The cause of the watch condition, when it holds (R64). -/
def watchCondition (k : Coil) (ind : Indication) : Option Cause :=
  if ind.watchDemand then some .margin
  else if k.coldWeather then some .coldWeather
  else none

/-- Guard release (R64). -/
def guardRelease (b : ContactBlock) (k : CoilConfig) (ind : Indication) : Bool :=
  ind.guardClearance && !plantHold b k

/-- Watch release (R64). -/
def watchRelease (k : Coil) (ind : Indication) : Bool := ind.watchClearance && !k.coldWeather

/-- The blind test (R66, third condition). -/
def State.blindTrip (s : State) (k : Coil) : Bool :=
  k.cfg.blindTripTime != 0 && k.eval.sensingLost && k.cfg.blindTripTime ≤ k.unknown &&
  s.oatColdOrLost k.cfg.blindTripOat

/-- The first trip condition of R66 that holds, as the cause of the trip. -/
def State.tripCause (s : State) (k : Coil) (ind : Indication) : Option Cause :=
  match ind.trip with
  | .hard => some .hard
  | .dose => some .dose
  | .none =>
    if contactCold s.contacts k.cfg then some .contact
    else if s.blindTrip k then some .blind
    else none

/-- STARTUP ends (R69). -/
def startupEnds (k : Coil) (ind : Indication) : Bool :=
  k.cfg.startupHold ≤ k.dwell && k.cfg.faceQuorum ≤ ind.faceCount && ind.waterInPlace

/-- The rule of STARTUP (R69). -/
def State.actInStartup (s : State) (c : CoilId) (ind : Indication) : State :=
  let k := s.coil c
  if startupEnds k ind then
    match guardCondition s.contacts k.cfg ind with
    | some cause => s.enterState c .guard (some cause)
    | none =>
      match watchCondition k ind with
      | some cause => s.enterState c .watch (some cause)
      | none => s.enterState c .normal none
  else s

/-- The rule of NORMAL (R70). -/
def State.actInNormal (s : State) (c : CoilId) (ind : Indication) : State :=
  let k := s.coil c
  match guardCondition s.contacts k.cfg ind with
  | some cause => s.enterState c .guard (some cause)
  | none =>
    match watchCondition k ind with
    | some cause => s.enterState c .watch (some cause)
    | none => s

/-- The rule of WATCH (R71). -/
def State.actInWatch (s : State) (c : CoilId) (ind : Indication) : State :=
  let k := s.coil c
  match guardCondition s.contacts k.cfg ind with
  | some cause => s.enterState c .guard (some cause)
  | none =>
    if watchRelease k ind ∧ k.cfg.watchDwell ≤ k.dwell then s.enterState c .normal none
    else
      match watchCondition k ind with
      | some cause => s.changeCause c cause
      | none => s

/-- The cause with which a coil leaves GUARD for WATCH (R72). -/
def watchCauseAfterGuard (k : Coil) (ind : Indication) : Cause :=
  if ind.watchDemand then .margin else if k.coldWeather then .coldWeather else .margin

/-- The rule of GUARD (R72). -/
def State.actInGuard (s : State) (c : CoilId) (ind : Indication) : State :=
  let k := s.coil c
  match guardCondition s.contacts k.cfg ind with
  | some cause => s.changeCause c cause
  | none =>
    if guardRelease s.contacts k.cfg ind ∧ k.cfg.guardDwell ≤ k.dwell then
      s.enterState c .watch (some (watchCauseAfterGuard k ind))
    else s

/-- The auto-reset timer after an indication in TRIP (R74): one more while the clear conditions hold. -/
def autoResetAfter (b : ContactBlock) (k : Coil) : Nat :=
  if clearConditions b k then min 3600 (k.autoResetTimer + 1) else 0

/-- The auto-reset timer is stored, and a coil whose timer has reached auto_reset is reset (R74). -/
def State.autoResetStep (s : State) (c : CoilId) (limit timer : Nat) : State :=
  if limit ≤ timer then s.resetToGuard c else s.setCoil c { s.coil c with autoResetTimer := timer }

/-- A coil in TRIP runs its auto-reset timer (R74). -/
def State.actInTrip (s : State) (c : CoilId) : State :=
  match (s.coil c).cfg.autoReset with
  | none => s.setCoil c { s.coil c with autoResetTimer := 0 }
  | some limit => s.autoResetStep c limit (autoResetAfter s.contacts (s.coil c))

/-- A coil that is not latched is tested for a trip, and its state's rule acts when none is found
(R61, R66). -/
def State.actUnlatched (s : State) (c : CoilId) (ind : Indication)
    (rule : State → CoilId → Indication → State) : State :=
  match s.tripCause (s.coil c) ind with
  | some cause => s.tripCoil c cause
  | none => rule s c ind

/-- The state machine takes an indication (R61); the results have been stored. A latched coil takes it too
(R73); that nothing reports its trip result, demands and clearances is a DESIGN CHOICE (log 30). -/
def State.takeIndication (s : State) (c : CoilId) (ind : Indication) : State :=
  let k := s.coil c
  let s1 := s.setCoil c (advanceTimers (s.coldWeatherFor k.cfg) k)
  match k.state with
  | .offline => s1
  | .startup => s1.actUnlatched c ind State.actInStartup
  | .normal => s1.actUnlatched c ind State.actInNormal
  | .watch => s1.actUnlatched c ind State.actInWatch
  | .guard => s1.actUnlatched c ind State.actInGuard
  | .trip => s1.actInTrip c
  | .lockout => s1.setCoil c { s1.coil c with autoResetTimer := 0 }

/-- The results of a coil's evaluation as its inputs stand (R40). -/
def State.evaluatedCoil (s : State) (c : CoilId) : EvalRuntime :=
  evaluated (s.coil c).cfg (s.faceValues c) (s.waterEntry c) (s.coil c).eval

/-- One evaluation of a coil, taken whole (R40). -/
def State.evaluateCoil (s : State) (c : CoilId) : State :=
  let k := s.coil c
  let e := s.evaluatedCoil c
  (s.setCoil c { k with eval := e }).takeIndication c (indicationOf k.cfg e)

/-- EVALUATION (R40): the expiry of a coil's evaluation timer. A stopped timer does not expire (R39):
nothing takes place then (log 9). -/
def execEvaluation (c : CoilId) (s : State) : Host.Outcome State Fault Refusal :=
  .next (if (s.coil c).evalTimer then s.evaluateCoil c else s)

/-- A coil whose record names a changed input takes the change (R67), judging coldness by what the
input now reads. -/
def State.takeContactChange (s : State) (i : Fin 16) (c : CoilId) : State :=
  let k := s.coil c
  if (k.cfg.contact.map ContactRef.input) = some i ∧ contactCold s.contacts k.cfg then
    match k.state with
    | .offline => s
    | .startup => s.tripCoil c .contact
    | .normal => s.tripCoil c .contact
    | .watch => s.tripCoil c .contact
    | .guard => s.tripCoil c .contact
    | .trip => s.setCoil c { k with autoResetTimer := 0 }
    | .lockout => s
  else s

end Sys2Proof.Machine
end

