-- ==== Sys2Proof/Machine/Contacts.lean ====
section
/-! DEFINITION. The commands of the contact and trip-line block (chapter 6): TICK,
DEBOUNCED_CONTACT_CHANGE, CONTACT_SETTLING, DEBOUNCED_SENSE_CHANGE, RELEASE_TIMER_EXPIRY. -/

namespace Sys2Proof.Machine

/-- The sample a contact pin gives: high is OPEN, low is CLOSED (R109). -/
def contactSample (pins : BitVec 16) (i : Nat) : ContactState :=
  if pins.getLsbD i then .opened else .closed

/-- The comparison of R109 for one contact input: its new debounced state and run count. -/
def compareContact (debounce : Nat) (input : ContactInput) (sample : ContactState) : ContactInput :=
  if sample = input.debounced then { input with run := 0 }
  else if input.run + 1 < debounce then { input with run := input.run + 1 }
  else { debounced := sample, run := 0 }

/-- All sixteen inputs compared independently at one tick (R109). -/
def compareContacts (debounce : Nat) (pins : BitVec 16) (inputs : List ContactInput) : List ContactInput :=
  inputs.mapIdx (fun i input => compareContact debounce input (contactSample pins i))

/-- The inputs whose debounced state differs between two readings of the block, ascending. -/
def changedInputs (before after : List ContactInput) : List (Fin 16) :=
  (List.finRange 16).filter (fun i =>
    (before[i.val]?).map ContactInput.debounced != (after[i.val]?).map ContactInput.debounced)

/-- The sense compared at a tick (R115): its run count, and whether its debounce completes. -/
def compareSense (debounce : Nat) (b : ContactBlock) (high : Bool) : Nat × Bool :=
  if high = b.senseHigh then (0, false)
  else if b.senseRun + 1 < debounce then (b.senseRun + 1, false)
  else (0, true)

/-- The three effects of a debounced change, its input's new state standing (R112): the coils that
name the input, the contact change flag, the trip output. Several coils that name the input take the change
in ascending coil number (DESIGN CHOICE, log 8). -/
def State.handContactChange (s : State) (i : Fin 16) : State :=
  ((coilIds.foldl (fun s c => s.takeContactChange i c) s).raiseContactChange).deriveTripOutput

/-- The release timer counts one tick while it runs and the part does not drive (R117). -/
def countRelease (b : ContactBlock) : Option Nat :=
  if b.driven then b.releaseTimer else b.releaseTimer.map (· - 1)

/-- The block after the sampling and comparing of a tick, before any change is handed on (R109, R110,
R115, R117). The ticks are counted until the block is settled. -/
def ContactBlock.sampled (b : ContactBlock) (debounce : Nat) (pins : BitVec 16) (senseHigh : Bool) :
    ContactBlock :=
  { b with
    inputs := compareContacts debounce pins b.inputs
    ticks := if b.settled then b.ticks else b.ticks + 1
    settled := b.settled || debounce ≤ b.ticks + 1
    senseRun := (compareSense debounce b senseHigh).1
    releaseTimer := countRelease b }

/-- The moderation time counts one tick, saturating at 60 s (R180). -/
def State.countModeration (s : State) : State :=
  s.withNotice { s.notice with moderationTicks := min 480 (s.notice.moderationTicks + 1) }

/-- A sense debounce that completed at a tick is handed on (R115). -/
def State.handSense (s : State) (before : ContactBlock) (high : Bool) : State :=
  if (compareSense s.globals.contactDebounce before high).2 then s.changeSense high else s

/-- The settling of the block at a tick derives the trip output anew (R110). -/
def State.handSettling (s : State) (before : ContactBlock) : State :=
  if s.contacts.settled = before.settled then s else s.deriveTripOutput

/-- A release timer with nothing left to run expires at a tick, if the part drove neither before it nor
now (R117, R118). -/
def State.handRelease (s : State) (before : ContactBlock) : State :=
  if before.driven = false ∧ s.contacts.releaseTimer = some 0 then s.expireRelease else s

/-- What a tick hands on in its own event, in one of the orders the manual allows (R109, R118; log 8):
the sense change, the contact changes in ascending input order, the settling, the release timer. -/
def State.handTick (s : State) (before : ContactBlock) (high : Bool) : State :=
  (((changedInputs before.inputs s.contacts.inputs).foldl State.handContactChange
    (s.handSense before high)).handSettling before).handRelease before

/-- TICK (R109, R110, R115, R117, R180). -/
def execTick (contacts : BitVec 16) (senseHigh : Bool) (s : State) : Host.Outcome State Fault Refusal :=
  .next ((((s.withContacts (s.contacts.sampled s.globals.contactDebounce contacts senseHigh)).countModeration).handTick
    s.contacts senseHigh))

/-- DEBOUNCED_CONTACT_CHANGE (R112): the input takes the new state with run count 0 and hands the
change on. A change to the state it holds is none, and none comes before the settling (R110); nothing
takes place then (log 9). -/
def execDebouncedContactChange (i : Fin 16) (newState : ContactState) (s : State) :
    Host.Outcome State Fault Refusal :=
  .next (
    if s.contacts.settled ∧ (s.contacts.inputs[i.val]?).map ContactInput.debounced ≠ some newState then
      (s.withContacts { s.contacts with
        inputs := s.contacts.inputs.set i.val { debounced := newState, run := 0 } }).handContactChange i
    else s)

/-- CONTACT_SETTLING (R110): the block becomes settled and derives the trip output anew. Once settled it
stays so. -/
def execContactSettling (s : State) : Host.Outcome State Fault Refusal :=
  .next (
    if s.contacts.settled then s
    else (s.withContacts { s.contacts with settled := true }).deriveTripOutput)

/-- DEBOUNCED_SENSE_CHANGE (R115, R116). A change to the level the sense holds is none (log 9). -/
def execDebouncedSenseChange (high : Bool) (s : State) : Host.Outcome State Fault Refusal :=
  .next (if s.contacts.senseHigh = high then s else s.changeSense high)

/-- RELEASE_TIMER_EXPIRY (R117): RELEASING to CLEAR. A timer that is stopped or held does not expire. -/
def execReleaseTimerExpiry (s : State) : Host.Outcome State Fault Refusal :=
  .next s.expireRelease

end Sys2Proof.Machine
end

