-- ==== Sys2Proof/Machine/Override.lean ====
section
/-! DEFINITION. The override unit on the branch (chapter 5): the rewriting of relayed SETs (R90, R91),
own SETs (R93), APPLIED echoes (R94 to R98), failures (R99, R100), power-on and RESTART (R105, R106);
and the command REFRESH_TIMER_EXPIRY. -/

namespace Sys2Proof.Machine

/-- A record has a (station, channel) key. -/
def ActuatorRecord.hasKey (r : ActuatorRecord) (station channel : Nat) : Bool :=
  r.station == station && r.channel == channel

/-- The record of a pair (R14: at most one). -/
def recordFor (records : List (Option ActuatorRecord)) (station channel : Nat) : Option ActuatorRecord :=
  (records.filterMap id).find? (fun r => r.hasKey station channel)

/-- The records of a pair changed in place. -/
def updateRecords (records : List (Option ActuatorRecord)) (station channel : Nat)
    (f : ActuatorRecord → ActuatorRecord) : List (Option ActuatorRecord) :=
  records.map (Option.map (fun r => if r.hasKey station channel then f r else r))

/-! ### Relayed SETs (R90, R91) -/

/-- The value with which an item of a relayed SET leaves for a record (R90): out of the captured
command under a present constraint, the value as received under an absent one. -/
def ActuatorRecord.relayedValue (r : ActuatorRecord) (value : Int) : Int :=
  match r.constraint with
  | some k => k.out (some (clampInt 0 1000 value))
  | none => value

/-- The capture of an item of a relayed SET by its record (R90). -/
def ActuatorRecord.capture (r : ActuatorRecord) (value : Int) : ActuatorRecord :=
  { r with cmdLast := some (clampInt 0 1000 value), sentValue := some (r.relayedValue value) }

/-- The items of a relayed SET taken in payload order (R90): the records after it and the items as
they leave. -/
def rewriteItems (dest : Byte) (records : List (Option ActuatorRecord)) :
    List (Byte × Int) → List (Option ActuatorRecord) × List (Byte × Int)
  | [] => (records, [])
  | (channel, value) :: rest =>
    match recordFor records dest.toNat channel.toNat with
    | none =>
      let r := rewriteItems dest records rest
      (r.1, (channel, value) :: r.2)
    | some k =>
      let r := rewriteItems dest
        (updateRecords records dest.toNat channel.toNat (fun q => q.capture value)) rest
      (r.1, (channel, k.relayedValue value) :: r.2)

/-- A relayed SET as it leaves, the records after it, and whether it is marked rewritten (R90, R91). -/
def rewriteSet (records : List (Option ActuatorRecord)) (t : Telegram) :
    List (Option ActuatorRecord) × Telegram × Bool :=
  let items := settingItems t.payload
  let r := rewriteItems t.dest records items
  (r.1, { t with payload := settingBytes r.2 }, decide (r.2 ≠ items))

/-! ### Own SETs (R88, R93) -/

/-- The raising time of a need. -/
def Need.since : Need → Nat
  | .none => 0
  | .protect t => t
  | .refresh t => t
  | .restore t => t

/-- PROTECT. -/
def Need.isProtect : Need → Bool
  | .protect _ => true
  | _ => false

/-- RESTORE or REFRESH. -/
def Need.isHousekeeping : Need → Bool
  | .refresh _ => true
  | .restore _ => true
  | _ => false

/-- The record offers its need to the arbiter (R88). -/
def ActuatorRecord.offers (r : ActuatorRecord) (clock : Nat) : Bool :=
  (r.need != .none) &&
  match r.retryNotBefore with
  | none => true
  | some t => t ≤ clock

/-- The oldest offered record of a kind of need: earliest raising time, then lowest index (R88, R159). Raising
times are compared as numbers, also where the clock has passed its top between them, of which R159 says
nothing (DESIGN CHOICE, log 26). -/
def oldestNeed (kind : Need → Bool) (clock : Nat) (best : Option ActuatorRecord) :
    List ActuatorRecord → Option ActuatorRecord
  | [] => best
  | r :: rest =>
    match best with
    | none => oldestNeed kind clock (if kind r.need && r.offers clock then some r else none) rest
    | some b =>
      oldestNeed kind clock
        (if kind r.need && r.offers clock && decide (r.need.since < b.need.since) then some r else some b)
        rest

/-- The value of an own SET, chosen by the need at the grant (R93). -/
def ActuatorRecord.ownValue (r : ActuatorRecord) : Int :=
  match r.need, r.constraint with
  | .restore _, _ => r.cmdLast.getD 0
  | _, some k => k.out r.cmdLast
  | _, none => r.cmdLast.getD 0

/-- The own SET of a record: one item (R93). -/
def State.formOwnSet (s : State) (r : ActuatorRecord) : Telegram where
  dest := BitVec.ofNat 8 r.station
  src := s.ownAddress
  kind := BitVec.ofNat 8 kindSet
  payload := settingBytes [(BitVec.ofNat 8 r.channel, r.ownValue)]

/-- The record after the grant of its own SET: sent_value is the value sent (R93). -/
def ActuatorRecord.afterOwnSet (r : ActuatorRecord) : ActuatorRecord :=
  { r with sentValue := some r.ownValue }

/-! ### Echoes (R94 to R98) -/

/-- The need after an echo that finds the constraint absent (R97). -/
def needAfterEcho (r : ActuatorRecord) (echo : Int) : Need :=
  match r.need with
  | .restore t => if r.cmdLast = some echo then .none else .restore t
  | n => n

/-- PROTECT or RESTORE: the needs a mismatching echo delays (R98). -/
def Need.retries : Need → Bool
  | .protect _ => true
  | .restore _ => true
  | _ => false

/-- An APPLIED item applied to its record (R95 to R98). The retry time is a number without a bound (DESIGN
CHOICE, log 26). -/
def ActuatorRecord.takeEcho (r : ActuatorRecord) (clock : Nat) (echo : Int) : ActuatorRecord :=
  let mismatch := decide (r.sentValue.isSome ∧ r.sentValue ≠ some echo)
  let r1 := { r with ackedValue := some echo, mismatch := mismatch, missCount := 0, lost := false }
  let need :=
    match r1.constraint with
    | some k => needUnder k r1 clock
    | none => needAfterEcho r1 echo
  { r1 with
    need := need
    retryNotBefore :=
      if mismatch && need.retries then some (clock + 2) else none }

/-- One item of an APPLIED from `src` (R94). -/
def takeAppliedItem (src : Byte) (clock : Nat) (records : List (Option ActuatorRecord))
    (item : Byte × Int) : List (Option ActuatorRecord) :=
  updateRecords records src.toNat item.1.toNat (fun r => r.takeEcho clock item.2)

/-- The override unit takes the items of an APPLIED in payload order (R94). -/
def State.takeApplied (s : State) (t : Telegram) : State :=
  s.withRecords ((settingItems t.payload).foldl (takeAppliedItem t.src s.plantClock) s.records)

/-! ### Failures (R99, R100) -/

/-- The record after the failure of an own SET (R99). The retry time is a number without a bound (DESIGN
CHOICE, log 26). -/
def ActuatorRecord.miss (r : ActuatorRecord) (clock : Nat) : ActuatorRecord :=
  { r with
    missCount := min 3 (r.missCount + 1)
    lost := r.lost || r.missCount == 2
    retryNotBefore := some (clock + 2) }

/-- An own SET for a pair ends without an answer (R99); a miss count that reaches 3 sets the actuator
LOST flag of the notice pending state (R100). -/
def State.ownSetFails (s : State) (station channel : Nat) : State :=
  match recordFor s.records station channel with
  | none => s
  | some r =>
    let s1 := s.withRecords (updateRecords s.records station channel (fun q => q.miss s.plantClock))
    if r.missCount = 2 then s1.raiseActuatorLost else s1

/-! ### Refresh timer (R89) -/

/-- The need after an expiry of the refresh timer (R89). -/
def needAfterRefresh (n : Need) (clock : Nat) : Need :=
  match n with
  | .none => .refresh clock
  | n => n

/-- REFRESH_TIMER_EXPIRY (R89): the timer reloads itself, and a need of NONE becomes REFRESH. A stopped
timer does not expire (log 9). -/
def execRefreshTimerExpiry (i : Fin 48) (s : State) : Host.Outcome State Fault Refusal :=
  .next (
    match entryAt s.records i.val with
    | none => s
    | some r =>
      if r.refreshTimer.isSome then
        s.withRecords (s.records.set i.val (some { r with need := needAfterRefresh r.need s.plantClock }))
      else s)

/-! ### Power-on and RESTART (R20, R105, R106) -/

/-- The records rebuilt from the rule table: one per pair, in the order in which the pairs first occur,
at indices 0 upward (R20). -/
def rebuildRecords (rules : List (Option OverrideRule)) : List (Option ActuatorRecord) :=
  let built := (rules.filterMap id).foldl (fun (acc : List ActuatorRecord) r =>
    if acc.any (fun q => q.hasKey r.station r.channel) then acc
    else acc ++ [ActuatorRecord.fresh r.station r.channel]) []
  padTo Config.recordCapacity none (built.map some)

/-- The levels of all coils become the held levels, and every record is recomputed once (R105, R106). -/
def State.takeLevelsAndRecompute (s : State) : State :=
  (s.withHeldLevels (s.coils.map (fun k => k.state.level))).recomputeWhere (fun _ => true)

/-- A record at a RESTART: key, index and cmd_last kept, the rest as R14 starts it (R106). -/
def ActuatorRecord.reinitialised (r : ActuatorRecord) : ActuatorRecord :=
  { ActuatorRecord.fresh r.station r.channel with cmdLast := r.cmdLast }

end Sys2Proof.Machine
end

