-- ==== Sys2Proof/Machine/Points.lean ====
section
/-! DEFINITION. Sample intake (chapter 2): the runtime of point map entries, the items of REPORT
telegrams, polls; and the commands POINT_AGE_EXPIRY, POLL_TIMER_EXPIRY, PLANT_CLOCK_INCREMENT. -/

namespace Sys2Proof.Machine

/-- The runtime of an entry as a load, a RESTART or a power-on starts it (R22, R29). -/
def startRuntime (cfg : PointConfig) (clock : Nat) : PointRuntime where
  state := .awaiting
  lastValue := none
  lastStatus := none
  lastSample := none
  lastPoll := none
  ageBase := clock
  pollNeed := cfg.pollInterval != 0
  pollDue := none

/-- An entry whose runtime starts afresh (R9). -/
def startEntry (cfg : PointConfig) (clock : Nat) : PointEntry := { cfg := cfg, rt := startRuntime cfg clock }

/-- The age expiry: age base plus max_age plus 1 (R22), a number without a bound (DESIGN CHOICE, log 26). -/
def PointEntry.ageExpiry (e : PointEntry) : Nat := e.rt.ageBase + e.cfg.maxAge + 1

/-- A value inside the plausibility window (R25). -/
def plausible (value : Int) : Bool := -5000 ≤ value && value ≤ 6000

/-- The poll timer started at a time, for an entry with polling on (R29, R30); its due time is a number
without a bound (DESIGN CHOICE, log 26). -/
def pollDueFrom (cfg : PointConfig) (clock : Nat) : Option Nat :=
  if cfg.pollInterval = 0 then none else some (clock + cfg.pollInterval)

/-- A REPORT item applied to its entry (R25, R26, R30). -/
def PointEntry.takeItem (e : PointEntry) (clock : Nat) (status : Byte) (value : Int) : PointEntry :=
  let ok := status = 0 ∧ plausible value
  { e with rt :=
    { e.rt with
      state := if ok then .valid else .fault
      lastValue := if ok then some value else e.rt.lastValue
      lastStatus := some status
      lastSample := some clock
      ageBase := clock
      pollNeed := false
      pollDue := pollDueFrom e.cfg clock } }

/-- An entry has a (station, channel) key. -/
def PointEntry.hasKey (e : PointEntry) (station channel : Nat) : Bool :=
  e.cfg.station == station && e.cfg.channel == channel

/-- One item of a REPORT from `src` (R24): applied to the entry with its key, ignored without one. -/
def takeReportItem (src : Byte) (clock : Nat) (points : List (Option PointEntry))
    (item : Byte × Byte × Int) : List (Option PointEntry) :=
  points.map (Option.map (fun e =>
    if e.hasKey src.toNat item.1.toNat then e.takeItem clock item.2.1 item.2.2 else e))

/-- Sample intake takes the items of a REPORT in payload order (R23, R24). -/
def State.takeReport (s : State) (t : Telegram) : State :=
  s.withPoints ((reportItems t.payload).foldl (takeReportItem t.src s.plantClock) s.points)

/-- An entry changed in place at a point index. -/
def State.updatePoint (s : State) (i : Nat) (f : PointEntry → PointEntry) : State :=
  match entryAt s.points i with
  | none => s
  | some e => s.withPoints (s.points.set i (some (f e)))

/-- The entry becomes STALE, whatever it was (R27). -/
def PointEntry.goStale (e : PointEntry) : PointEntry := { e with rt := { e.rt with state := .stale } }

/-- POINT_AGE_EXPIRY (R27): the plant clock has reached the entry's age expiry. An expiry that the clock
has not reached is none (R28, log 9). -/
def execPointAgeExpiry (i : Fin 96) (s : State) : Host.Outcome State Fault Refusal :=
  .next (s.updatePoint i.val (fun e => if e.ageExpiry ≤ s.plantClock then e.goStale else e))

/-- The poll timer of an entry expires: the need is raised and the timer stops (R29). -/
def PointEntry.pollExpires (e : PointEntry) (clock : Nat) : PointEntry :=
  match e.rt.pollDue with
  | none => e
  | some due =>
    if due ≤ clock then { e with rt := { e.rt with pollNeed := true, pollDue := none } } else e

/-- POLL_TIMER_EXPIRY (R29). A stopped timer, or one the clock has not reached, does not expire (log 9). -/
def execPollTimerExpiry (i : Fin 96) (s : State) : Host.Outcome State Fault Refusal :=
  .next (s.updatePoint i.val (fun e => e.pollExpires s.plantClock))

/-- PLANT_CLOCK_INCREMENT (R22): one second more. After 4294967295 s a 32-bit count has no stated
value: a free value (log 3). -/
def execPlantClockIncrement (s : State) : Host.Outcome State Fault Refusal :=
  .next (
    if s.plantClock < 4294967295 then s.withPlantClock (s.plantClock + 1)
    else (s.withPlantClock (Config.plantClockPastTop s.freeCount).toNat).withFreeCount (s.freeCount + 1))

/-! ### Polls (R31, R32) -/

/-- A POLL is offered (R31). -/
def State.pollOffered (s : State) : Bool := (s.points.filterMap id).any (fun e => e.rt.pollNeed)

/-- A time of last sample is older than another; an absent one is older than every present one (R31). Two
present ones are compared as numbers, also where the clock has passed its top between them, of which R31 says
nothing (DESIGN CHOICE, log 26). -/
def sampleOlder : Option Nat → Option Nat → Bool
  | none, none => false
  | none, some _ => true
  | some _, none => false
  | some a, some b => a < b

/-- Among entries with a raised need, the one whose last sample is oldest, the first in index order
among equals (R31). -/
def oldestDue (best : Option PointEntry) : List PointEntry → Option PointEntry
  | [] => best
  | e :: rest =>
    match best with
    | none => oldestDue (if e.rt.pollNeed then some e else none) rest
    | some b =>
      oldestDue (if e.rt.pollNeed && sampleOlder e.rt.lastSample b.rt.lastSample then some e else some b) rest

/-- A poll of an entry consumes its need and restarts its timer (R32). -/
def PointEntry.poll (e : PointEntry) (clock : Nat) : PointEntry :=
  { e with rt :=
    { e.rt with pollNeed := false, lastPoll := some clock, pollDue := pollDueFrom e.cfg clock } }

/-- Up to `budget` entries of a station with raised needs, in ascending point index: the map after
their poll, and their channels (R32). -/
def pollStation (station clock : Nat) :
    Nat → List (Option PointEntry) → List (Option PointEntry) × List Nat
  | _, [] => ([], [])
  | 0, points => (points, [])
  | budget + 1, none :: rest =>
    let r := pollStation station clock (budget + 1) rest
    (none :: r.1, r.2)
  | budget + 1, some e :: rest =>
    if e.rt.pollNeed && e.cfg.station == station then
      let r := pollStation station clock budget rest
      (some (e.poll clock) :: r.1, e.cfg.channel :: r.2)
    else
      let r := pollStation station clock (budget + 1) rest
      (some e :: r.1, r.2)

/-- The station of the granted POLL (R31). -/
def State.pollStationChosen (s : State) : Nat :=
  match oldestDue none (s.points.filterMap id) with
  | none => 0
  | some e => e.cfg.station

/-- The READ of a granted POLL, and the point map after it (R32). -/
def State.formPoll (s : State) : Telegram × List (Option PointEntry) :=
  let station := s.pollStationChosen
  let r := pollStation station s.plantClock 8 s.points
  ({ dest := BitVec.ofNat 8 station, src := s.ownAddress, kind := BitVec.ofNat 8 kindRead,
     payload := r.2.map (BitVec.ofNat 8 ·) }, r.1)

end Sys2Proof.Machine
end

