-- ==== Sys2Proof/Machine/Transmit.lean ====
section
/-! DEFINITION. What a port's transmitter sends, bit by bit (R121, R141, R142), and how a transmission
begins and ends for the port (R136, R140, R144, R145). -/

namespace Sys2Proof.Machine

/-- Bit times of the preamble: one character time of mark (R141). -/
abbrev preambleBits : Nat := 11

/-- Bit times of preamble, break and the mark after it (R141, R142). -/
abbrev breakEndBits : Nat := 44

/-- Samples of one bit time (R137). -/
abbrev samplesPerBit : Nat := 16

/-- The level of a bit value: 1 is mark (R121). -/
def levelOfBit (b : Bool) : Level := if b then .mark else .space

/-- The level of bit `j`, 0 to 10, of the character at position `pos` with data `d` (R121). -/
def charLevel (pos : Nat) (d : Byte) (j : Nat) : Level :=
  if j = 0 then .space
  else if j ≤ 8 then levelOfBit (d.getLsbD (j - 1))
  else if j = 9 then levelOfBit (pos == 0)
  else .mark

/-- Bit times before the first start bit. -/
def Transmission.leadBits (t : Transmission) : Nat := if t.withBreak then breakEndBits else preambleBits

/-- Bit times of the whole transmission. -/
def Transmission.totalBits (t : Transmission) : Nat := t.leadBits + 11 * t.bytes.length

/-- The level sent in bit time `b` of a transmission (R141, R142). -/
def Transmission.levelSent (t : Transmission) (b : Nat) : Level :=
  if b < preambleBits then .mark
  else if b < t.leadBits then (if b < 33 then .space else .mark)
  else
    let k := b - t.leadBits
    charLevel (k / 11) (t.bytes.getD (k / 11) 0) (k % 11)

/-- The majority of three samples (R122, R143). -/
def majority (a b c : Level) : Level := if a = b then a else c

/-- A port begins a transmission: the line idle condition ends (R140), and its receiver abandons a
partial telegram without count and takes no characters (R136). -/
def Port.beginTransmission (x : Port) (bytes : List Byte) (withBreak : Bool) (owner : TxOwner) : Port :=
  { x with
    receiver := .hunt
    waitMark := true
    gapTimer := none
    sampler := none
    idleCount := 0
    lineIdle := false
    tx := some { bytes := bytes, withBreak := withBreak, elapsed := 0, eighth := .mark, ninth := .mark,
                 owner := owner } }

/-- A transmission ends, by completion or by loss: the driver is released, the receiver resumes in HUNT
waiting for mark (R136), and the idle count starts from 0 with the next sample (R140). -/
def Port.endTransmission (x : Port) : Port :=
  { x with
    receiver := .hunt
    waitMark := true
    gapTimer := none
    sampler := none
    idleCount := 0
    lineIdle := false
    tx := none }

end Sys2Proof.Machine
end

