-- ==== Sys2Proof/Machine/Branch.lean ====
section
/-! DEFINITION. The branch arbiter and the branch transaction (sections 9.5 to 9.7): results, grants,
and the commands BRANCH_GRANT, BRANCH_TRANSMISSION_COMPLETE, BRANCH_LINE_FAULT, BREAK_END,
RESPONSE_TIMEOUT, TURNAROUND_END. -/

namespace Sys2Proof.Machine

/-- The results of a transaction (section 9.6); ANSWERED and REFUSED carry the station's telegram. -/
inductive TxnResult where
  | answered (answer : Telegram)
  | refused (answer : Telegram)
  | noResponse
  | badResponse
  | lineFault
  deriving DecidableEq, Repr

/-- The transaction is outstanding in a phase. -/
def State.inPhase (s : State) (p : TxnPhase) : Bool :=
  match s.txn with
  | .outstanding q _ => q == p
  | _ => false

/-- The answer to a relayed request as it is forwarded (R164): an APPLIED to a rewritten SET leaves with
ALTERED set, anything else as received. -/
def forwarded (rewritten : Bool) (answer : Telegram) : Telegram :=
  if rewritten && answer.code == kindApplied then { answer with kind := answer.kind ||| alteredBit }
  else answer

/-- The telegram that a relayed transaction's result sends up the trunk (R164, R165). -/
def answerUp (t : Transaction) (rewritten : Bool) : TxnResult → Telegram
  | .answered a => forwarded rewritten a
  | .refused a => forwarded rewritten a
  | .noResponse => supervisorRefuse t.request .noResponse
  | .badResponse => supervisorRefuse t.request .badResponse
  | .lineFault => supervisorRefuse t.request .lineFault

/-- What a result does to an own SET's record (R99, R166): nothing when ANSWERED, or when the record
the transaction carries has been removed. -/
def State.ownSetResult (s : State) (station channel : Nat) (live : Bool) : TxnResult → State
  | .answered _ => s
  | _ => if live then s.ownSetFails station channel else s

/-- The count of consecutive NO-RESPONSE results after a result (R167). -/
def noResponseAfter (n : Nat) : TxnResult → Nat
  | .noResponse => min 3 (n + 1)
  | _ => 0

/-- What a result hands to the trunk or inward (R164 to R166). -/
def State.deliverResult (s : State) (t : Transaction) (r : TxnResult) : State :=
  match t.origin with
  | .relayed rewritten => s.fillReserved { telegram := answerUp t rewritten r, role := .plain }
  | .ownSet station channel live => s.ownSetResult station channel live r
  | .ownRead => s

/-- A result ends the outstanding transaction (R161, R164 to R167). -/
def State.endTransaction (s : State) (r : TxnResult) : State :=
  match s.txn with
  | .outstanding _ t =>
    ((s.deliverResult t r).withNoResponse (noResponseAfter s.noResponse r)).withTxn (.turnaround 0)
  | _ => s

/-- A result for a transaction in RECEIVING (R162); without one nothing is judged. -/
def State.endIfReceiving (s : State) (r : TxnResult) : State :=
  if s.inPhase .receiving then s.endTransaction r else s

/-- The outstanding transaction moves to another phase. -/
def State.movePhase (s : State) (p : TxnPhase) : State :=
  match s.txn with
  | .outstanding _ t => s.withTxn (.outstanding p t)
  | _ => s

/-! ### The grant (R158 to R160) -/

/-- What the arbiter grants. -/
inductive Grant where
  | need (r : ActuatorRecord)
  | relay (t : Telegram) (rest : List Telegram)
  | poll
  deriving DecidableEq, Repr

/-- The oldest PROTECT need offered (R159). -/
def State.oldestProtect (s : State) : Option ActuatorRecord :=
  oldestNeed Need.isProtect s.plantClock none (s.records.filterMap id)

/-- The oldest RESTORE or REFRESH need offered, the two kinds taken together (R159). -/
def State.oldestHousekeeping (s : State) : Option ActuatorRecord :=
  oldestNeed Need.isHousekeeping s.plantClock none (s.records.filterMap id)

/-- The candidate the arbiter takes (R159), with the fairness rule (R160). -/
def State.chooseGrant (s : State) : Option Grant :=
  match s.relayQueue with
  | t :: rest =>
    if s.fairness = 3 then some (.relay t rest)
    else
      match s.oldestProtect with
      | some r => some (.need r)
      | none => some (.relay t rest)
  | [] =>
    match s.oldestProtect with
    | some r => some (.need r)
    | none =>
      match s.oldestHousekeeping with
      | some r => some (.need r)
      | none => if s.pollOffered then some .poll else none

/-- A grant opportunity's first two conditions (R158): IDLE, and the branch line idle with no
transmission under way. -/
def State.branchFree (s : State) : Bool :=
  (s.txn == .idle) && s.branch.lineIdle && s.branch.tx.isNone

/-- The fairness count after a grant (R160). -/
def fairnessAfter (n : Nat) : Grant → Nat
  | .relay _ _ => 0
  | _ => min 3 (n + 1)

/-- The work granted forms its request in the event of the grant (R159): the state after it, the
request, and the transaction's origin. -/
def State.formRequest (s : State) : Grant → State × Telegram × TxnOrigin
  | .need r =>
    (s.withRecords (updateRecords s.records r.station r.channel ActuatorRecord.afterOwnSet),
      s.formOwnSet r, .ownSet r.station r.channel true)
  | .relay t rest =>
    if t.code = kindSet then
      let w := rewriteSet s.records t
      ((s.withRelayQueue rest).withRecords w.1, w.2.1, .relayed w.2.2)
    else (s.withRelayQueue rest, t, .relayed false)
  | .poll => (s.withPoints s.formPoll.2, s.formPoll.1, .ownRead)

/-- The transaction begins at its grant (R161), with a resync break when three consecutive NO-RESPONSE
results stand (R167); the branch transmitter begins at once (R141). -/
def State.beginTransaction (s : State) (request : Telegram) (origin : TxnOrigin) : State :=
  let withBreak : Bool := s.noResponse == 3
  (((s.withTxn (.outstanding (if withBreak then .brk else .sending)
      { request := request, origin := origin, timeout := s.responseTimeout })).withNoResponse
        (if withBreak then 0 else s.noResponse)).updatePort .branch
    (fun x => x.beginTransmission request.bytes withBreak .branchRequest))

/-- A grant (R159 to R161). -/
def State.grant (s : State) (g : Grant) : State :=
  let r := s.formRequest g
  (r.1.withFairness (fairnessAfter s.fairness g)).beginTransaction r.2.1 r.2.2

/-- BRANCH_GRANT (R158, R159). Without a grant opportunity there is none (log 9). -/
def execBranchGrant (s : State) : Host.Outcome State Fault Refusal :=
  .next (
    if s.branchFree then
      match s.chooseGrant with
      | some g => s.grant g
      | none => s
    else s)

/-! ### The transaction's events (R161, R162) -/

/-- The request has left intact (R146): AWAITING, the response timer started (R161). -/
def State.branchLeft (s : State) : State :=
  (s.updatePort .branch Port.endTransmission).movePhase .awaiting

/-- BRANCH_TRANSMISSION_COMPLETE (R161): only a transaction in SENDING has a request on the line. -/
def execBranchTransmissionComplete (s : State) : Host.Outcome State Fault Refusal :=
  .next (if s.branch.tx.isSome ∧ s.inPhase .sending then s.branchLeft else s)

/-- A read-back mismatch on the branch (R145): the transmission stops, LINE-FAULT is counted, and the
transaction ends LINE-FAULT. -/
def State.lineFaults (s : State) : State :=
  (((s.updatePort .branch Port.endTransmission).count .branch
    (fun k => { k with lineFault := bump k.lineFault })).endTransaction .lineFault)

/-- BRANCH_LINE_FAULT (R145): a mismatch needs a transmission under way (log 9). -/
def execBranchLineFault (s : State) : Host.Outcome State Fault Refusal :=
  .next (if s.branch.tx.isSome then s.lineFaults else s)

/-- The mark after the break ends and the first start bit is sent (R142, R161). -/
def State.endBreak (s : State) : State :=
  (s.updatePort .branch (fun x =>
    { x with tx := x.tx.map (fun t => { t with elapsed := samplesPerBit * breakEndBits }) })).movePhase .sending

/-- BREAK_END (R161): BREAK to SENDING. -/
def execBreakEnd (s : State) : Host.Outcome State Fault Refusal :=
  .next (if s.inPhase .brk then s.endBreak else s)

/-- RESPONSE_TIMEOUT (R162): the response timer runs only in AWAITING. -/
def execResponseTimeout (s : State) : Host.Outcome State Fault Refusal :=
  .next (if s.inPhase .awaiting then s.endTransaction .noResponse else s)

/-- TURNAROUND_END (R161): TURNAROUND to IDLE. -/
def execTurnaroundEnd (s : State) : Host.Outcome State Fault Refusal :=
  .next (
    match s.txn with
    | .turnaround _ => s.withTxn .idle
    | _ => s)

/-- The turnaround counts one branch sample; at 176 the transaction manager enters IDLE (R161). -/
def State.countTurnaround (s : State) : State :=
  match s.txn with
  | .turnaround n => if n + 1 < 176 then s.withTxn (.turnaround (n + 1)) else s.withTxn .idle
  | _ => s

end Sys2Proof.Machine
end

