-- ==== Sys2Proof/Machine/Management.lean ====
section
/-! DEFINITION. Management requests (chapters 1, 4, 8 and 10): how a request is taken and answered
(R157, R171 to R175), and the seventeen ADMIN commands. -/

namespace Sys2Proof.Machine

/-- What serving a request gives: the state after it, the result with the reply's data (no result while
a COMMIT writes, R173), and what waits for the reply's departure. -/
structure Served where
  state : State
  result : Option ResultCode
  data : List Byte
  role : ReplyRole
  deriving DecidableEq, Repr

/-- A refused request changes no state and carries no data (R171, R172). -/
def Served.refuse (s : State) (code : ResultCode) : Served :=
  { state := s, result := some code, data := [], role := .plain }

/-- An accepted request (R171): ACCEPTED, or ACCEPTED-CLAMPED. -/
def Served.accept (s : State) (clamped : Bool) : Served :=
  { state := s, result := some (acceptedIf clamped), data := [], role := .plain }

/-- An accepted read with its data (R171). -/
def Served.reply (s : State) (data : List Byte) : Served :=
  { state := s, result := some .accepted, data := data, role := .plain }

/-- An ADMIN-REPLY (R171): request code, result, data. -/
def State.adminReply (s : State) (requester code : Byte) (r : ResultCode) (data : List Byte) : Telegram where
  dest := requester
  src := s.ownAddress
  kind := BitVec.ofNat 8 kindAdminReply
  payload := code :: r.code :: data

/-- The management unit takes a request whose place is reserved (R171): BUSY while a RESTART is pending
(R175) or, for a gated class, a COMMIT is in flight (R174); otherwise the request is served. The reply,
when one is formed, fills the reserved place. -/
def State.serveAdmin (s : State) (src code : Byte) (gated : Bool) (serve : State → Served) : State :=
  let served :=
    if s.restartPending || (gated && s.commit.isSome) then Served.refuse s .busy else serve s
  match served.result with
  | none => served.state
  | some r =>
    served.state.fillReserved { telegram := s.adminReply src code r served.data, role := served.role }

/-- A management candidate (R157): accepted when a place can be reserved, otherwise answered BUSY in a
free place or dropped (R156). -/
def State.takeAdmin (s : State) (src code : Byte) (gated : Bool) (serve : State → Served) : State :=
  if s.trunkOut.canReserve then s.reservePlace.serveAdmin src code gated serve
  else s.fillFreeOrDrop (s.adminReply src code .busy [])

/-- An ADMIN with a request code that is not one of 0x01 to 0x11: UNKNOWN before any other test (R171). -/
def State.takeUnknown (s : State) (src code : Byte) : State :=
  if s.trunkOut.canReserve then
    s.reservePlace.fillReserved { telegram := s.adminReply src code .unknown [], role := .plain }
  else s.fillFreeOrDrop (s.adminReply src code .busy [])

/-! ### LOAD-COIL (R2) -/

/-- LOAD-COIL (R2, R4, R5). -/
def serveLoadCoil (args : List Byte) (s : State) : Served :=
  match parseLayout (1 :: configWidths) 2 args with
  | some (number :: fields) =>
    match coilOf number, requestedConfig fields with
    | some c, some req =>
      if (s.coil c).state ≠ .offline then .refuse s .state
      else .accept (s.setCoil c { s.coil c with cfg := clampConfig req }) (decide (clampConfig req ≠ req))
    | _, _ => .refuse s .malformed
  | _ => .refuse s .malformed

/-! ### LOAD-POINT and CLEAR-POINT (R6 to R10) -/

/-- The coil that owns a point is OFFLINE, or the point belongs to PLANT (R4). -/
def State.ownerOffline (s : State) : Owner → Bool
  | .coil c => (s.coil c).state == .offline
  | .plant => true

/-- The point index of a key. -/
def pointIndex (points : List (Option PointEntry)) (station channel : Nat) : Option Nat :=
  points.findIdx? (fun o => o.any (fun e => e.hasKey station channel))

/-- The entry with a key, when there is one, passes the gate of R4. -/
def State.keyGateOpen (s : State) (station channel : Nat) : Bool :=
  match pointIndex s.points station channel with
  | none => true
  | some i =>
    match entryAt s.points i with
    | none => true
    | some e => s.ownerOffline e.cfg.owner

/-- Another entry has the same owner and role (R8). -/
def State.breaksUniqueness (s : State) (req : PointConfig) : Bool :=
  (s.points.filterMap id).any (fun e =>
    !e.hasKey req.station req.channel && e.cfg.owner == req.owner && e.cfg.role == req.role)

/-- The index a load takes: the one its key holds, else the lowest free (R9, R12). -/
def placeIndex {α : Type} (held : Option Nat) (table : List (Option α)) : Option Nat :=
  match held with
  | some i => some i
  | none => lowestFree table

/-- LOAD-POINT (R5 to R9). -/
def serveLoadPoint (args : List Byte) (s : State) : Served :=
  match (parseLayout [1, 1, 1, 1, 2, 2, 2] 5 args).bind requestedPoint with
  | none => .refuse s .malformed
  | some req =>
    if ¬ (s.ownerOffline req.owner ∧ s.keyGateOpen req.station req.channel) then .refuse s .state
    else if s.breaksUniqueness req then .refuse s .duplicate
    else
      match placeIndex (pointIndex s.points req.station req.channel) s.points with
      | none => .refuse s .full
      | some i =>
        .accept (s.withPoints (s.points.set i (some (startEntry (clampPoint req) s.plantClock))))
          (decide (clampPoint req ≠ req))

/-- CLEAR-POINT (R10). -/
def serveClearPoint (args : List Byte) (s : State) : Served :=
  match parseLayout [1, 1] 2 args with
  | some [station, channel] =>
    if ¬ (isStation station ∧ isChannel channel) then .refuse s .malformed
    else if ¬ s.keyGateOpen station channel then .refuse s .state
    else
      match pointIndex s.points station channel with
      | none => .accept s false
      | some i => .accept (s.withPoints (s.points.set i none)) false
  | _ => .refuse s .malformed

/-! ### LOAD-RULE and CLEAR-RULE (R11 to R15) -/

/-- Two rules have the same key (R11). -/
def OverrideRule.sameKey (a : Sys2Proof.OverrideRule) (coil : CoilId) (station channel : Nat)
    (level : RuleLevel) : Bool :=
  a.coil == coil && ruleNames a station channel && a.level == level

/-- The rule index of a key. -/
def ruleIndex (rules : List (Option Sys2Proof.OverrideRule)) (coil : CoilId) (station channel : Nat)
    (level : RuleLevel) : Option Nat :=
  rules.findIdx? (fun o => o.any (fun r => OverrideRule.sameKey r coil station channel level))

/-- A record for a pair exists. -/
def hasRecord (records : List (Option ActuatorRecord)) (station channel : Nat) : Bool :=
  (recordFor records station channel).isSome

/-- A record is created for a pair that has none, at the lowest free index (R12, R14). -/
def ensureRecord (records : List (Option ActuatorRecord)) (station channel : Nat) :
    List (Option ActuatorRecord) :=
  if hasRecord records station channel then records
  else
    match lowestFree records with
    | none => records
    | some i => records.set i (some (ActuatorRecord.fresh station channel))

/-- LOAD-RULE (R5, R11, R12): the record of its pair is created when needed, and recomputed (R85). -/
def serveLoadRule (args : List Byte) (s : State) : Served :=
  match (parseLayout [1, 1, 1, 1, 1, 1, 2, 1, 2] 8 args).bind requestedRule with
  | none => .refuse s .malformed
  | some req =>
    if (s.coil req.coil).state ≠ .offline then .refuse s .state
    else
      match placeIndex (ruleIndex s.rules req.coil req.station req.channel req.level) s.rules with
      | none => .refuse s .full
      | some i =>
        let s1 := (s.withRules (s.rules.set i (some (clampRule req)))).withRecords
          (ensureRecord s.records req.station req.channel)
        .accept (s1.recomputeWhere (fun r => r.hasKey req.station req.channel))
          (decide (clampRule req ≠ req))

/-- The record of a pair is removed (R15). -/
def removeRecord (records : List (Option ActuatorRecord)) (station channel : Nat) :
    List (Option ActuatorRecord) :=
  records.map (fun o => if o.any (fun r => r.hasKey station channel) then none else o)

/-- An own SET in flight for a removed record no longer carries one (R15, R99). -/
def loseRecord (txn : TxnState) (station channel : Nat) : TxnState :=
  match txn with
  | .outstanding p t =>
    match t.origin with
    | .ownSet st ch live =>
      .outstanding p { t with origin := .ownSet st ch (live && !(st == station && ch == channel)) }
    | _ => .outstanding p t
  | other => other

/-- What the removal of a rule does to its pair's record: removed with its last rule (R15), recomputed
otherwise (R13, R85). -/
def State.afterRuleRemoved (s : State) (station channel : Nat) : State :=
  if (s.rules.filterMap id).any (fun r => ruleNames r station channel) then
    s.recomputeWhere (fun r => r.hasKey station channel)
  else
    (s.withRecords (removeRecord s.records station channel)).withTxn (loseRecord s.txn station channel)

/-- CLEAR-RULE (R5, R11, R13, R15). A key the table does not hold is accepted with no change (R13),
whatever the coil's state (DEDUCED, log 12), and without a recomputation of a record that stands for its
pair (DESIGN CHOICE between R13 and R85, log 12). -/
def serveClearRule (args : List Byte) (s : State) : Served :=
  match parseLayout [1, 1, 1, 1] 4 args with
  | some [coil, station, channel, level] =>
    match coilOf coil, ruleLevelOf level with
    | some c, some l =>
      if ¬ (isStation station ∧ isChannel channel) then .refuse s .malformed
      else
        match ruleIndex s.rules c station channel l with
        | none => .accept s false
        | some i =>
          if (s.coil c).state ≠ .offline then .refuse s .state
          else .accept ((s.withRules (s.rules.set i none)).afterRuleRemoved station channel) false
    | _, _ => .refuse s .malformed
  | _ => .refuse s .malformed

/-! ### LOAD-RELAY-SET (R16) -/

/-- LOAD-RELAY-SET (R16). -/
def serveLoadRelaySet (args : List Byte) (s : State) : Served :=
  let stations := args.map BitVec.toNat
  if stations.length ≤ Config.relaySetCapacity ∧ stations.all isStation ∧ stations.Nodup then
    .accept (s.withRelaySet stations) false
  else .refuse s .malformed

/-! ### ENABLE-COIL, DISABLE-COIL, RESET-COIL (R17, R75 to R77) -/

/-- Face points: at least face_quorum FACE entries, whatever their state (R17). -/
def State.hasFaceQuorum (s : State) (c : CoilId) : Bool :=
  (s.coil c).cfg.faceQuorum ≤ (s.ownedBy c Role.isFace).length

/-- A rule that counts for ENABLE-COIL: HEATING-VALVE or PUMP at level W or G (R17). -/
def heatingRule (c : CoilId) (r : Sys2Proof.OverrideRule) : Bool :=
  r.coil == c && (r.tag == .heatingValve || r.tag == .pump) && (r.level == .w || r.level == .g)

/-- Both tests of R17. -/
def State.completeForService (s : State) (c : CoilId) : Bool :=
  s.hasFaceQuorum c && (s.rules.filterMap id).any (heatingRule c)

/-- The coil number of a request whose layout is one byte. -/
def coilArgument (args : List Byte) : Option CoilId :=
  match parseLayout [1] 1 args with
  | some [n] => coilOf n
  | _ => none

/-- ENABLE-COIL (R17, R68). -/
def serveEnableCoil (args : List Byte) (s : State) : Served :=
  match coilArgument args with
  | none => .refuse s .malformed
  | some c =>
    if (s.coil c).state ≠ .offline then .accept s false
    else if ¬ s.completeForService c then .refuse s .incomplete
    else .accept ((s.setCoil c { s.coil c with enabled := true }).enterStartup c) false

/-- The entry into OFFLINE of a coil taken out of service (R77). -/
def State.takeOffline (s : State) (c : CoilId) : State :=
  (s.setCoil c { s.coil c with
    unknown := 0, autoResetTimer := 0, coldWeather := false, tripHistory := [], enabled := false,
    evalTimer := false, eval := .initial }).enterState c .offline none

/-- DISABLE-COIL (R77). -/
def serveDisableCoil (args : List Byte) (s : State) : Served :=
  match coilArgument args with
  | none => .refuse s .malformed
  | some c =>
    if (s.coil c).state.latched then .refuse s .latched
    else if (s.coil c).state = .offline then .accept s false
    else .accept (s.takeOffline c) false

/-- The effects of an accepted RESET-COIL (R76); out of LOCKOUT the trip history is cleared. -/
def State.resetCoil (s : State) (c : CoilId) : State :=
  let k := s.coil c
  let s1 := if k.state = .lockout then s.setCoil c { k with tripHistory := [] } else s
  s1.resetToGuard c

/-- RESET-COIL (R75, R76). The clear conditions test the M that the coil holds, which a RESTART keeps (R56,
R75); that it counts between the RESTART and the coil's next evaluation, where R79 says NOT-CLEAR until an
evaluation has stored an M, is a DESIGN CHOICE (log 28, unsafe). -/
def serveResetCoil (args : List Byte) (s : State) : Served :=
  match parseLayout [1, 1] 2 args with
  | some [number, marker] =>
    match coilOf number, markerOf marker with
    | some c, some release =>
      if ¬ (s.coil c).state.latched then .refuse s .notLatched
      else if (s.coil c).state = .lockout ∧ release = false then .refuse s .locked
      else if ¬ clearConditions s.contacts (s.coil c) then .refuse s .notClear
      else .accept (s.resetCoil c) false
    | _, _ => .refuse s .malformed
  | _ => .refuse s .malformed

/-! ### SET-PORTS (R139, R176) -/

/-- An earlier SET-PORTS reply still in the list no longer stands for what is staged (R139). -/
def OutTelegram.supersede (o : OutTelegram) : OutTelegram :=
  if o.role = .setPorts then { o with role := .plain } else o

/-- SET-PORTS stages the settings of both ports and the global settings whole (R139, R176). -/
def State.stagePorts (s : State) (p : PortsRequest) : State :=
  (s.withStaged { trunk := some p.trunk, branch := some (p.branch, p.responseTimeout),
                  globals := some p.globals, replyLeft := false }).withTrunkOut
    { s.trunkOut with filled := s.trunkOut.filled.map OutTelegram.supersede }

/-- SET-PORTS (R176). -/
def serveSetPorts (args : List Byte) (s : State) : Served :=
  match (parseLayout [1, 1, 1, 1, 2, 1, 1, 1, 1] 9 args).bind requestedPorts with
  | none => .refuse s .malformed
  | some req =>
    { state := s.stagePorts (clampPorts req), result := some (acceptedIf (decide (clampPorts req ≠ req))),
      data := [], role := .setPorts }

/-! ### STATUS and READ-COUNTERS (R150, R177) -/

/-- The clear marker of a request whose only argument it is; missing means no clearing (R177). -/
def clearArgument (args : List Byte) : Option Bool :=
  match parseLayout [1] 0 args with
  | some [] => some false
  | some [n] => markerOf n
  | _ => none

/-- Transaction state codes (R179). -/
def TxnState.code : TxnState → Nat
  | .idle => 0
  | .outstanding .brk _ => 1
  | .outstanding .sending _ => 2
  | .outstanding .awaiting _ => 3
  | .outstanding .receiving _ => 4
  | .turnaround _ => 5

/-- PLANT-TRIP codes (R179). -/
def PlantTrip.code : PlantTrip → Nat
  | .clear => 0
  | .asserted => 1
  | .releasing => 2

/-- Release timer codes: stopped, running, held (R117, R179). -/
def ContactBlock.timerCode (b : ContactBlock) : Nat :=
  match b.releaseTimer with
  | none => 0
  | some _ => if b.driven then 2 else 1

/-- The data of a STATUS reply, 21 bytes (R179). -/
def State.statusData (s : State) : List Byte :=
  be32 s.plantClock ++
  byteOf (bitIf s.fallback 1 + bitIf s.commit.isSome 2 + bitIf s.globals.noticesOn 4 +
    bitIf s.staged.trunk.isSome 8 + bitIf s.staged.branch.isSome 16 + bitIf s.contacts.settled 32 +
    bitIf s.trunk.polaritySuspect 64 + bitIf s.branch.polaritySuspect 128) ++
  [s.ownAddress] ++
  be16 (maskOf (s.coils.map (fun k => k.state.latched))) ++
  be16 (maskOf (s.coils.map (fun k => k.state != .offline))) ++
  be16 (maskOf (s.contacts.inputs.map (fun i => s.contacts.settled && i.debounced == .opened))) ++
  byteOf (bitIf s.contacts.driven 1 + bitIf (!s.contacts.senseHigh) 2 + 4 * s.contacts.recognition.code +
    16 * s.contacts.timerCode) ++
  be16 (s.contacts.releaseTimer.getD 0) ++
  byteOf s.relayQueue.length ++ byteOf s.trunkOut.reserved ++ byteOf s.trunkOut.filled.length ++
  byteOf s.txn.code ++ byteOf s.fairness ++ byteOf s.noResponse

/-- The sticky flags of both ports are cleared (R149, R177). -/
def State.clearSticky (s : State) : State :=
  (s.updatePort .trunk (fun x => { x with polaritySuspect := false })).updatePort .branch
    (fun x => { x with polaritySuspect := false })

/-- STATUS (R177): the reply shows the flags as they were before any clearing. -/
def serveStatus (args : List Byte) (s : State) : Served :=
  match clearArgument args with
  | none => .refuse s .malformed
  | some clear => .reply (if clear then s.clearSticky else s) s.statusData

/-- The data of a READ-COUNTERS reply, 38 bytes (R179). -/
def State.counterData (s : State) : List Byte :=
  let t := s.trunk.counters
  let b := s.branch.counters
  [t.framing, t.breaks, t.noise, t.crc, t.length, t.gap, t.address, t.collision, t.restart,
    t.trunkFull, b.framing, b.breaks, b.noise, b.crc, b.length, b.gap, b.address, b.lineFault,
    b.restart].flatMap be16

/-- All nineteen counters become 0 (R150). -/
def State.clearCounters (s : State) : State :=
  (s.count .trunk (fun _ => .zero)).count .branch (fun _ => .zero)

/-- READ-COUNTERS (R150): the values reported are those cleared. -/
def serveReadCounters (args : List Byte) (s : State) : Served :=
  match clearArgument args with
  | none => .refuse s .malformed
  | some clear => .reply (if clear then s.clearCounters else s) s.counterData

/-! ### COMMIT and RESTART (R173, R175, R185) -/

/-- The contents a COMMIT writes, as they stand in the event of its taking: staged settings where some
are staged (R185). -/
def State.imageContents (s : State) : ImageContents where
  relaySet := s.relaySet
  coils := s.coils.map (fun k => (k.cfg, k.enabled))
  points := s.points.map (Option.map PointEntry.cfg)
  rules := s.rules
  trunk := s.staged.trunk.getD s.trunk.settings
  branch := (s.staged.branch.map Prod.fst).getD s.branch.settings
  responseTimeout := (s.staged.branch.map Prod.snd).getD s.responseTimeout
  globals := s.staged.globals.getD s.globals

/-- COMMIT (R173): the write starts, and the image is erased (R185, R186); the reply waits for its end. -/
def serveCommit (src : Byte) (args : List Byte) (s : State) : Served :=
  if args = [] then
    { state := (s.withCommit (some { requester := src, contents := s.imageContents })).withStore
        { condition := .erased, contents := none, checkWord := none },
      result := none, data := [], role := .plain }
  else .refuse s .malformed

/-- RESTART (R175): ACCEPTED at once, and the restart is pending until that reply leaves. -/
def serveRestart (args : List Byte) (s : State) : Served :=
  if args = [] then
    { state := s.withRestartPending true, result := some .accepted, data := [], role := .restart }
  else .refuse s .malformed

/-! ### COIL-DETAIL, READ-POINTS, READ-ACTUATOR (R178) -/

/-- COIL-DETAIL section 0, runtime, 32 bytes (R179). DESIGN CHOICE (log 30, unsafe): the trip result, the
demands and the clearances of the coil's indications, which R73 calls received and reported, stand in no
reply, since R55 does not list them and no layout of R179 has a place for them; what is reported is what the
layout names. -/
def detailRuntime (c : CoilId) (k : Coil) : List Byte :=
  let e := k.eval
  byteOf c.val ++ byteOf 0 ++ byteOf k.state.code ++ byteOf (causeCode k.cause) ++
  byteOf k.state.level ++ be32 k.entryTime ++ be16 k.dwell ++ be16 k.unknown ++
  be16 k.autoResetTimer ++
  byteOf (bitIf k.coldWeather 1 + bitIf e.degraded 2 + bitIf e.sensingLost 4 +
    bitIf e.waterInPlace 8 + bitIf k.enabled 16) ++
  byteOf e.n ++
  byteOf (maskOf [e.tf.isSome, e.tw.isSome, e.m.isSome, e.slope.isSome, e.mp.isSome]) ++
  be16sOr0 e.tf ++ be16sOr0 e.tw ++ be16sOr0 e.m ++ be16sOr0 e.slope ++ be16sOr0 e.mp ++
  be32 e.dose

/-- COIL-DETAIL section 1, histories, 36 bytes (R179). -/
def detailHistories (c : CoilId) (k : Coil) : List Byte :=
  byteOf c.val ++ byteOf 1 ++ byteOf k.eval.ring.length ++
  (padTo Config.ringCapacity 0 k.eval.ring).flatMap be16s ++
  byteOf k.tripHistory.length ++ (padTo Config.tripHistoryCapacity 0 k.tripHistory).flatMap be32

/-- COIL-DETAIL section 2, configuration, 43 bytes (R179). -/
def detailConfig (c : CoilId) (k : Coil) : List Byte :=
  byteOf c.val ++ byteOf 2 ++ configBlock k.cfg k.enabled

/-- COIL-DETAIL (R178). -/
def serveCoilDetail (args : List Byte) (s : State) : Served :=
  match parseLayout [1, 1] 2 args with
  | some [number, part] =>
    match coilOf number, part with
    | some c, 0 => .reply s (detailRuntime c (s.coil c))
    | some c, 1 => .reply s (detailHistories c (s.coil c))
    | some c, 2 => .reply s (detailConfig c (s.coil c))
    | _, _ => .refuse s .malformed
  | _ => .refuse s .malformed

/-- The occupied entries of a table at or after an index, with their indices, ascending (R178). -/
def occupiedFrom {α : Type} (start : Nat) (table : List (Option α)) : List (Nat × α) :=
  (table.zipIdx.filterMap (fun p => p.1.map (fun e => (p.2, e)))).filter (fun q => start ≤ q.1)

/-- The next index: the one after the last entry reported, or 0xFF when no occupied entry follows
(R178). -/
def nextIndex {α : Type} (count : Nat) (occupied : List (Nat × α)) : Nat :=
  if occupied.length ≤ count then 255
  else
    match (occupied.take count).getLast? with
    | none => 255
    | some q => q.1 + 1

/-- One entry of a READ-POINTS reply, 20 bytes (R179). -/
def pointBytes (clock : Nat) (q : Nat × PointEntry) : List Byte :=
  let e := q.2
  byteOf q.1 ++ byteOf e.cfg.station ++ byteOf e.cfg.channel ++ byteOf (ownerCode e.cfg.owner) ++
  byteOf (roleCode e.cfg.role) ++ be16s e.cfg.offset ++ be16 e.cfg.maxAge ++ be16 e.cfg.pollInterval ++
  byteOf (pointStateCode e.rt.state) ++ be16sOr0 e.rt.lastValue ++ [e.rt.lastStatus.getD 0] ++
  sinceField clock e.rt.lastSample ++ sinceField clock e.rt.lastPoll ++
  byteOf (maskOf [e.rt.lastValue.isSome, e.rt.lastStatus.isSome, e.rt.lastSample.isSome,
    e.rt.lastPoll.isSome, e.rt.pollNeed])

/-- The data of a READ-POINTS reply (R179). -/
def State.pointsData (s : State) (start : Nat) : List Byte :=
  let found := occupiedFrom start s.points
  byteOf (nextIndex 2 found) ++ byteOf (found.take 2).length ++
  (found.take 2).flatMap (pointBytes s.plantClock)

/-- READ-POINTS (R178). -/
def serveReadPoints (args : List Byte) (s : State) : Served :=
  match parseLayout [1] 1 args with
  | some [start] =>
    if start < Config.pointCapacity then .reply s (s.pointsData start) else .refuse s .malformed
  | _ => .refuse s .malformed

/-- One record of a READ-ACTUATOR reply, 25 bytes (R179). DESIGN CHOICE (log 24): no read reports the role
tag of a rule, although R11 says so, because no layout of R179 has a place for it. -/
def recordBytes (q : Nat × ActuatorRecord) : List Byte :=
  let r := q.2
  byteOf q.1 ++ byteOf r.station ++ byteOf r.channel ++
  byteOf (maskOf [r.constraint.isSome, r.constraint.any Constraint.conflict,
    r.constraint.any Constraint.floorPresent, r.cmdLast.isSome, r.sentValue.isSome,
    r.ackedValue.isSome, r.mismatch, r.lost]) ++
  be16sOr0 (r.constraint.map Constraint.lo) ++ be16sOr0 (r.constraint.map Constraint.hi) ++
  be16sOr0 r.cmdLast ++ be16sOr0 r.sentValue ++ be16sOr0 r.ackedValue ++
  byteOf (needCode r.need) ++ be32 r.need.since ++ byteOf r.missCount ++
  byteOf (bitIf r.retryNotBefore.isSome 1) ++ be32 (r.retryNotBefore.getD 0)

/-- The data of a READ-ACTUATOR reply (R179). -/
def State.actuatorData (s : State) (start : Nat) : List Byte :=
  let found := occupiedFrom start s.records
  byteOf (nextIndex 1 found) ++ byteOf (found.take 1).length ++ (found.take 1).flatMap recordBytes

/-- READ-ACTUATOR (R104, R178). -/
def serveReadActuator (args : List Byte) (s : State) : Served :=
  match parseLayout [1] 1 args with
  | some [start] =>
    if start < Config.recordCapacity then .reply s (s.actuatorData start) else .refuse s .malformed
  | _ => .refuse s .malformed

/-! ### The requests by their codes (R179) -/

/-- LOAD-COIL, 0x01, refused while a COMMIT is in flight (R174). -/
def State.adminLoadCoil (s : State) (src : Byte) (args : List Byte) : State :=
  s.takeAdmin src 0x01#8 true (serveLoadCoil args)

/-- LOAD-POINT, 0x02, refused while a COMMIT is in flight (R174). -/
def State.adminLoadPoint (s : State) (src : Byte) (args : List Byte) : State :=
  s.takeAdmin src 0x02#8 true (serveLoadPoint args)

/-- CLEAR-POINT, 0x03, refused while a COMMIT is in flight (R174). -/
def State.adminClearPoint (s : State) (src : Byte) (args : List Byte) : State :=
  s.takeAdmin src 0x03#8 true (serveClearPoint args)

/-- LOAD-RULE, 0x04, refused while a COMMIT is in flight (R174). -/
def State.adminLoadRule (s : State) (src : Byte) (args : List Byte) : State :=
  s.takeAdmin src 0x04#8 true (serveLoadRule args)

/-- CLEAR-RULE, 0x05, refused while a COMMIT is in flight (R174). -/
def State.adminClearRule (s : State) (src : Byte) (args : List Byte) : State :=
  s.takeAdmin src 0x05#8 true (serveClearRule args)

/-- LOAD-RELAY-SET, 0x06, refused while a COMMIT is in flight (R174). -/
def State.adminLoadRelaySet (s : State) (src : Byte) (args : List Byte) : State :=
  s.takeAdmin src 0x06#8 true (serveLoadRelaySet args)

/-- ENABLE-COIL, 0x07, served while a COMMIT is in flight (R174). -/
def State.adminEnableCoil (s : State) (src : Byte) (args : List Byte) : State :=
  s.takeAdmin src 0x07#8 false (serveEnableCoil args)

/-- DISABLE-COIL, 0x08, served while a COMMIT is in flight (R174). -/
def State.adminDisableCoil (s : State) (src : Byte) (args : List Byte) : State :=
  s.takeAdmin src 0x08#8 false (serveDisableCoil args)

/-- RESET-COIL, 0x09, served while a COMMIT is in flight (R174). -/
def State.adminResetCoil (s : State) (src : Byte) (args : List Byte) : State :=
  s.takeAdmin src 0x09#8 false (serveResetCoil args)

/-- SET-PORTS, 0x0A, refused while a COMMIT is in flight (R174). -/
def State.adminSetPorts (s : State) (src : Byte) (args : List Byte) : State :=
  s.takeAdmin src 0x0A#8 true (serveSetPorts args)

/-- STATUS, 0x0B, served while a COMMIT is in flight (R174). -/
def State.adminStatus (s : State) (src : Byte) (args : List Byte) : State :=
  s.takeAdmin src 0x0B#8 false (serveStatus args)

/-- READ-COUNTERS, 0x0C, served while a COMMIT is in flight (R174). -/
def State.adminReadCounters (s : State) (src : Byte) (args : List Byte) : State :=
  s.takeAdmin src 0x0C#8 false (serveReadCounters args)

/-- COMMIT, 0x0D, refused while a COMMIT is in flight (R174). -/
def State.adminCommit (s : State) (src : Byte) (args : List Byte) : State :=
  s.takeAdmin src 0x0D#8 true (serveCommit src args)

/-- RESTART, 0x0E, refused while a COMMIT is in flight (R174). -/
def State.adminRestart (s : State) (src : Byte) (args : List Byte) : State :=
  s.takeAdmin src 0x0E#8 true (serveRestart args)

/-- COIL-DETAIL, 0x0F, served while a COMMIT is in flight (R174). -/
def State.adminCoilDetail (s : State) (src : Byte) (args : List Byte) : State :=
  s.takeAdmin src 0x0F#8 false (serveCoilDetail args)

/-- READ-POINTS, 0x10, served while a COMMIT is in flight (R174). -/
def State.adminReadPoints (s : State) (src : Byte) (args : List Byte) : State :=
  s.takeAdmin src 0x10#8 false (serveReadPoints args)

/-- READ-ACTUATOR, 0x11, served while a COMMIT is in flight (R174). -/
def State.adminReadActuator (s : State) (src : Byte) (args : List Byte) : State :=
  s.takeAdmin src 0x11#8 false (serveReadActuator args)

/-- A management candidate's payload handed to the management unit by its request code (R157, R179). -/
def State.takeAdminPayload (s : State) (src code : Byte) (args : List Byte) : State :=
  match code.toNat with
  | 1 => s.adminLoadCoil src args
  | 2 => s.adminLoadPoint src args
  | 3 => s.adminClearPoint src args
  | 4 => s.adminLoadRule src args
  | 5 => s.adminClearRule src args
  | 6 => s.adminLoadRelaySet src args
  | 7 => s.adminEnableCoil src args
  | 8 => s.adminDisableCoil src args
  | 9 => s.adminResetCoil src args
  | 10 => s.adminSetPorts src args
  | 11 => s.adminStatus src args
  | 12 => s.adminReadCounters src args
  | 13 => s.adminCommit src args
  | 14 => s.adminRestart src args
  | 15 => s.adminCoilDetail src args
  | 16 => s.adminReadPoints src args
  | 17 => s.adminReadActuator src args
  | _ => s.takeUnknown src code

/-! ### The commands -/

/-- LOAD_COIL (R2). -/
def execLoadCoil (src : Byte) (args : List Byte) (s : State) : Host.Outcome State Fault Refusal :=
  .next (s.adminLoadCoil src args)

/-- LOAD_POINT (R9). -/
def execLoadPoint (src : Byte) (args : List Byte) (s : State) : Host.Outcome State Fault Refusal :=
  .next (s.adminLoadPoint src args)

/-- CLEAR_POINT (R10). -/
def execClearPoint (src : Byte) (args : List Byte) (s : State) : Host.Outcome State Fault Refusal :=
  .next (s.adminClearPoint src args)

/-- LOAD_RULE (R12). -/
def execLoadRule (src : Byte) (args : List Byte) (s : State) : Host.Outcome State Fault Refusal :=
  .next (s.adminLoadRule src args)

/-- CLEAR_RULE (R13). -/
def execClearRule (src : Byte) (args : List Byte) (s : State) : Host.Outcome State Fault Refusal :=
  .next (s.adminClearRule src args)

/-- LOAD_RELAY_SET (R16). -/
def execLoadRelaySet (src : Byte) (args : List Byte) (s : State) : Host.Outcome State Fault Refusal :=
  .next (s.adminLoadRelaySet src args)

/-- ENABLE_COIL (R17). -/
def execEnableCoil (src : Byte) (args : List Byte) (s : State) : Host.Outcome State Fault Refusal :=
  .next (s.adminEnableCoil src args)

/-- DISABLE_COIL (R77). -/
def execDisableCoil (src : Byte) (args : List Byte) (s : State) : Host.Outcome State Fault Refusal :=
  .next (s.adminDisableCoil src args)

/-- RESET_COIL (R75, R76). -/
def execResetCoil (src : Byte) (args : List Byte) (s : State) : Host.Outcome State Fault Refusal :=
  .next (s.adminResetCoil src args)

/-- SET_PORTS (R176). -/
def execSetPorts (src : Byte) (args : List Byte) (s : State) : Host.Outcome State Fault Refusal :=
  .next (s.adminSetPorts src args)

/-- STATUS (R177). -/
def execStatus (src : Byte) (args : List Byte) (s : State) : Host.Outcome State Fault Refusal :=
  .next (s.adminStatus src args)

/-- READ_COUNTERS (R150). -/
def execReadCounters (src : Byte) (args : List Byte) (s : State) : Host.Outcome State Fault Refusal :=
  .next (s.adminReadCounters src args)

/-- COMMIT (R173). -/
def execCommit (src : Byte) (args : List Byte) (s : State) : Host.Outcome State Fault Refusal :=
  .next (s.adminCommit src args)

/-- RESTART (R175). -/
def execRestart (src : Byte) (args : List Byte) (s : State) : Host.Outcome State Fault Refusal :=
  .next (s.adminRestart src args)

/-- COIL_DETAIL (R178). -/
def execCoilDetail (src : Byte) (args : List Byte) (s : State) : Host.Outcome State Fault Refusal :=
  .next (s.adminCoilDetail src args)

/-- READ_POINTS (R178). -/
def execReadPoints (src : Byte) (args : List Byte) (s : State) : Host.Outcome State Fault Refusal :=
  .next (s.adminReadPoints src args)

/-- READ_ACTUATOR (R104, R178). -/
def execReadActuator (src : Byte) (args : List Byte) (s : State) : Host.Outcome State Fault Refusal :=
  .next (s.adminReadActuator src args)

end Sys2Proof.Machine
end

