-- ==== Sys2Proof/Machine/Receiver.lean ====
section
/-! DEFINITION. The receivers (section 7.5), trunk intake (section 9.1, 9.4), the judging of answers
(R163), bursts of errors (R147 to R149), and the commands CHARACTER_RECEIVED, TELEGRAM_COMPLETE,
GAP_TIMER_EXPIRY. -/

namespace Sys2Proof.Machine

/-- Samples from the decision of a stop bit, at its tenth, to the expiry of the gap timer: the other six
of the stop bit and 22 bit times (R134; DEDUCED, log 10). -/
abbrev gapSamples : Nat := 358

/-- One character time in samples (section 8). -/
abbrev characterSamples : Nat := 176

/-! ### Telegram errors and the port restart (R147 to R149) -/

/-- What a port restart does to the port (R148, R149). -/
def Port.restarted (x : Port) : Port :=
  { x with
    receiver := .hunt
    waitMark := true
    gapTimer := none
    sampler := none
    counters := { x.counters with restart := bump x.counters.restart }
    polaritySuspect := x.polaritySuspect || x.spaceRun == characterSamples
    errorRun := 0 }

/-- A telegram error handed to the port (R147): at the eighth in a row the port restarts in the same
event, with the port-restart flag (R148). -/
def State.telegramError (s : State) (p : PortId) : State :=
  if (s.port p).errorRun + 1 < 8 then
    s.updatePort p (fun x => { x with errorRun := x.errorRun + 1 })
  else (s.updatePort p Port.restarted).raisePortRestart

/-- A discard in ASSEMBLE (R133): on the branch it ends a transaction in RECEIVING with BAD-RESPONSE
(R162), and then it is handed to the port as one telegram error. -/
def State.discardInAssembly (s : State) (p : PortId) : State :=
  match p with
  | .trunk => s.telegramError .trunk
  | .branch => (s.endIfReceiving .badResponse).telegramError .branch

/-! ### Trunk intake (R152, R155 to R157) -/

/-- A relay candidate (R155): entered at the queue's tail with a reserved place, or answered BUSY or
dropped (R156). -/
def State.takeRelayCandidate (s : State) (t : Telegram) : State :=
  if s.relayQueue.length < Config.relayQueueCapacity ∧ s.trunkOut.canReserve then
    (s.reservePlace).withRelayQueue (s.relayQueue ++ [t])
  else s.fillFreeOrDrop (supervisorRefuse t .busy)

/-- Trunk intake classifies a good telegram by its kind and DEST (R152). -/
def State.trunkIntake (s : State) (t : Telegram) : State :=
  if (t.code = kindRead ∨ t.code = kindSet) ∧ s.relaySet.contains t.dest.toNat then
    s.takeRelayCandidate t
  else if t.code = kindAdmin ∧ t.dest = s.ownAddress then
    s.takeAdminPayload t.src (t.payload.headD 0) t.payload.tail
  else s

/-! ### Answers (R163) -/

/-- The result of a good telegram judged against the request (R163). -/
def judge (request answer : Telegram) : TxnResult :=
  if answer.src = request.dest ∧ answer.dest = request.src then
    if request.code = kindRead ∧ answer.code = kindReport then .answered answer
    else if request.code = kindSet ∧ answer.code = kindApplied then .answered answer
    else if answer.code = kindRefuse ∧ (request.code = kindRead ∨ request.code = kindSet) then
      .refused answer
    else .badResponse
  else .badResponse

/-- The transaction manager judges a good telegram completed in RECEIVING (R163). -/
def State.judgeAnswer (s : State) (t : Telegram) : State :=
  match s.txn with
  | .outstanding .receiving q => s.endTransaction (judge q.request t)
  | _ => s

/-- The blocks that take a good telegram on the branch (R135): items first, the result second. -/
def State.branchIntake (s : State) (t : Telegram) : State :=
  let s1 :=
    if t.code = kindReport then s.takeReport t
    else if t.code = kindApplied then s.takeApplied t
    else s
  s1.judgeAnswer t

/-- A good telegram handed to the port and to the blocks that take it (R135, R147). -/
def State.takeGood (s : State) (p : PortId) (t : Telegram) : State :=
  let s1 := s.updatePort p (fun x => { x with errorRun := 0 })
  match p with
  | .trunk => s1.trunkIntake t
  | .branch => s1.branchIntake t

/-- A port's receiver leaves ASSEMBLE for HUNT, its gap timer stopped. -/
def Port.toHunt (x : Port) : Port := { x with receiver := .hunt, gapTimer := none }

/-- An ADDRESS discard (R126, R135): counted, no telegram error; on the branch it ends a transaction in
RECEIVING with BAD-RESPONSE (R162). -/
def State.discardAddress (s : State) (p : PortId) : State :=
  let s1 := s.count p (fun k => { k with address := bump k.address })
  match p with
  | .trunk => s1
  | .branch => s1.endIfReceiving .badResponse

/-- The receiver completes a telegram: check, then address (R135). DESIGN CHOICE (log 25): the address test
stands before sample intake and the override unit also for a REPORT or APPLIED on the branch, although R23
and R94 take one "whatever its DEST". -/
def State.completeTelegram (s : State) (p : PortId) (bytes : List Byte) : State :=
  let s1 := s.updatePort p Port.toHunt
  if ¬ checkPasses bytes then
    (s1.count p (fun k => { k with crc := bump k.crc })).discardInAssembly p
  else if ¬ addressAssigned (assembledTelegram bytes).dest then s1.discardAddress p
  else s1.takeGood p (assembledTelegram bytes)

/-! ### Characters (R123, R132, R133) -/

/-- Every bit of the character is at space (R123). -/
def charIsBreak (ch : LineChar) : Bool := !ch.stopMark && !ch.markBit && ch.data == 0

/-- A NOISE character is counted once (R122). -/
def State.countNoise (s : State) (p : PortId) (noise : Bool) : State :=
  if noise then s.count p (fun k => { k with noise := bump k.noise }) else s

/-- A character error is counted BREAK or FRAMING, and the receiver waits for mark in HUNT (R123). -/
def State.countCharError (s : State) (p : PortId) (isBreak : Bool) : State :=
  (s.count p (fun k =>
    if isBreak then { k with breaks := bump k.breaks } else { k with framing := bump k.framing })).updatePort
      p (fun x => { x.toHunt with waitMark := true })

/-- The receiver stores a run of bytes in ASSEMBLE and starts the gap timer anew (R132 to R134). -/
def Port.assembling (x : Port) (bytes : List Byte) : Port :=
  { x with receiver := .assemble bytes, gapTimer := some gapSamples }

/-- The branch receiver enters ASSEMBLE: a transaction in AWAITING moves to RECEIVING, its response
timer stopped (R162). -/
def State.answerBegins (s : State) (p : PortId) : State :=
  match p with
  | .trunk => s
  | .branch => if s.inPhase .awaiting then s.movePhase .receiving else s

/-- A LENGTH error is counted (R127, R133). -/
def State.countLength (s : State) (p : PortId) : State :=
  s.count p (fun k => { k with length := bump k.length })

/-- A sound character at the next position of a telegram in assembly (R133). -/
def State.assembleNext (s : State) (p : PortId) (bytes : List Byte) (data : Byte) : State :=
  let all := bytes ++ [data]
  if all.length = 4 ∧ ¬ lenAllowed (kindCode (all.getD 2 0)) (all.getD 3 0).toNat then
    ((s.updatePort p Port.toHunt).countLength p).discardInAssembly p
  else if all.length = 6 + (all.getD 3 0).toNat then s.completeTelegram p all
  else s.updatePort p (fun x => x.assembling all)

/-- A character by the receiver's state (R132, R133). -/
def State.takeCharIn (s : State) (p : PortId) (ch : LineChar) : State :=
  match (s.port p).receiver with
  | .hunt =>
    if ¬ ch.stopMark then s.countCharError p (charIsBreak ch)
    else if ch.markBit then (s.updatePort p (fun x => x.assembling [ch.data])).answerBegins p
    else s
  | .assemble bytes =>
    if ¬ ch.stopMark then (s.countCharError p (charIsBreak ch)).discardInAssembly p
    else if ch.markBit then
      ((s.updatePort p (fun x => x.assembling [ch.data])).countLength p).discardInAssembly p
    else s.assembleNext p bytes ch.data

/-- The receiver of a port looks for characters: its driver is not enabled (R136) and it does not wait
for mark (R123). -/
def Port.listens (x : Port) : Bool := x.tx.isNone && !x.waitMark

/-- A character has ended on the line: it is sampled no longer, and its start bit at space has ended the
line idle condition (R140). An idle count that has not yet reached 176 stays as it stands (DESIGN CHOICE,
log 19): samples at space set it to 0, and the command does not say how many samples it stands for. -/
def Port.characterEnded (x : Port) : Port :=
  { x with
    sampler := none
    idleCount := if x.lineIdle then 0 else x.idleCount
    lineIdle := false }

/-- A character taken at the decision of its stop bit (R122, R132, R133). -/
def State.takeChar (s : State) (p : PortId) (ch : LineChar) : State :=
  ((s.updatePort p Port.characterEnded).countNoise p ch.noise).takeCharIn p ch

/-- CHARACTER_RECEIVED (R132, R133). A receiver that does not listen takes none (R123, R136). -/
def execCharacterReceived (p : PortId) (ch : LineChar) (s : State) : Host.Outcome State Fault Refusal :=
  .next (if (s.port p).listens then s.takeChar p ch else s)

/-- The character with this data byte is the last of the telegram in assembly (R133). -/
def Receiver.completesWith (r : Receiver) (data : Byte) : Bool :=
  match r with
  | .hunt => false
  | .assemble bytes => 4 ≤ bytes.length && (bytes ++ [data]).length == 6 + (bytes.getD 3 0).toNat

/-- TELEGRAM_COMPLETE (R135): the last character, mark bit clear, completes the telegram in assembly. A
character at any other position completes none (log 9). -/
def execTelegramComplete (p : PortId) (last : Byte) (noise : Bool) (s : State) :
    Host.Outcome State Fault Refusal :=
  .next (
    if (s.port p).listens && (s.port p).receiver.completesWith last then
      s.takeChar p { data := last, markBit := false, stopMark := true, noise := noise }
    else s)

/-- The gap timer expires: the partial telegram is discarded with a GAP error (R134). -/
def State.gapExpires (s : State) (p : PortId) : State :=
  ((s.updatePort p Port.toHunt).count p (fun k => { k with gap := bump k.gap })).discardInAssembly p

/-- GAP_TIMER_EXPIRY (R134). A stopped timer does not expire (log 9). -/
def execGapTimerExpiry (p : PortId) (s : State) : Host.Outcome State Fault Refusal :=
  .next (if (s.port p).gapTimer.isSome then s.gapExpires p else s)

end Sys2Proof.Machine
end

