-- ==== Sys2Proof/Machine/Store.lean ====
section
/-! DEFINITION. The settings store (chapter 11) and what power-on and a RESTART do to every block, with
the commands COMMIT_WRITE_END and POWER_ON_RESET. -/

namespace Sys2Proof.Machine

/-- The contents of an image as bytes, in the order of R184's table; the layout of each is left open
(log 7). -/
def imageBytes (m : ImageContents) : List Byte :=
  Config.imageRelaySet m.relaySet ++ Config.imageCoils m.coils ++ Config.imagePoints m.points ++
  Config.imageRules m.rules ++ Config.imagePorts m.trunk m.branch m.responseTimeout ++
  Config.imageGlobals m.globals

/-- The check word of an image: the CRC of R131 over its contents (R184). -/
def imageCheck (m : ImageContents) : Word16 := crc16 (imageBytes m)

/-- The image after a write that succeeded (R185, R186), its check word written last. -/
def Store.written (contents : ImageContents) : Store where
  condition := .valid
  contents := some contents
  checkWord := some (imageCheck contents)

/-- The image after a write that failed, or that a power-on cut short (R186). -/
def Store.spoilt : Store where
  condition := .failed
  contents := none
  checkWord := none

/-- FALLBACK is cleared: the fallback change flag, and the trip output derived anew (R189). -/
def State.leaveFallback (s : State) : State :=
  if s.fallback then ((s.withFallback false).raiseFallbackChange).deriveTripOutput else s

/-- The COMMIT reply fills its reserved place, and the COMMIT is no longer in flight (R173). -/
def State.answerCommit (s : State) (q : CommitInFlight) (r : ResultCode) : State :=
  (s.withCommit none).fillReserved { telegram := s.adminReply q.requester 0x0D#8 r [], role := .plain }

/-- COMMIT_WRITE_END (R185): ACCEPTED and a valid image, or STORE-FAULT and a failed one. Without a
COMMIT in flight no write ends (log 9). -/
def execCommitWriteEnd (success : Bool) (s : State) : Host.Outcome State Fault Refusal :=
  .next (
    match s.commit with
    | none => s
    | some q =>
      if success then ((s.withStore (Store.written q.contents)).answerCommit q .accepted).leaveFallback
      else (s.withStore Store.spoilt).answerCommit q .storeFault)

/-! ### Power-on (R187, R188) -/

/-- The image as the next power-on finds it: a write cut short leaves it failed (R186). -/
def State.storeAtPowerOn (s : State) : Store := if s.commit.isSome then Store.spoilt else s.store

/-- The part powered on with an image that fails its check (R188). The commands that wait and the
counter of free values are the model's own and stay. -/
def State.powerOnFallback (s : State) (straps : BitVec 5) : State :=
  { State.reset with
    pending := s.pending, freeCount := s.freeCount, straps := straps, store := s.storeAtPowerOn }

/-- The tables and settings of a valid image, before the coils take their power-on states: R187 steps 1
to 3, and the point runtime of R36. -/
def State.powerOnTables (s : State) (straps : BitVec 5) (image : ImageContents) : State :=
  { State.reset with
    pending := s.pending
    freeCount := s.freeCount
    straps := straps
    store := s.storeAtPowerOn
    fallback := false
    notice := Notice.atPowerOn
    coils := image.coils.map (fun q => Coil.atPowerOn q.1 q.2)
    points := image.points.map (Option.map (fun cfg => startEntry cfg 0))
    rules := image.rules
    relaySet := image.relaySet
    trunk := Port.atPowerOn image.trunk
    branch := Port.atPowerOn image.branch
    responseTimeout := image.responseTimeout
    globals := image.globals }

/-- A coil whose stored enabled_in_image is set enters STARTUP (R78). -/
def State.bringUp (s : State) (c : CoilId) : State := if (s.coil c).enabled then s.enterStartup c else s

/-- The part powered on with a valid image (R187): tables, coils, then the records rebuilt and
recomputed once (R20, R105). -/
def State.powerOnValid (s : State) (straps : BitVec 5) (image : ImageContents) : State :=
  let s1 := coilIds.foldl State.bringUp (s.powerOnTables straps image)
  (s1.withRecords (rebuildRecords s1.rules)).takeLevelsAndRecompute

/-- The contents of an image that passes its check: the check word it holds equals the CRC computed over
the contents it holds (R184). An erased or failed image does not pass (R186). -/
def Store.passing (m : Store) : Option ImageContents :=
  match m.condition with
  | .valid => m.contents.filter (fun x => m.checkWord = some (imageCheck x))
  | .erased => none
  | .failed => none

/-- POWER_ON_RESET (R187, R188, R190). -/
def execPowerOnReset (straps : BitVec 5) (s : State) : Host.Outcome State Fault Refusal :=
  .next (
    match s.storeAtPowerOn.passing with
    | some image => s.powerOnValid straps image
    | none => s.powerOnFallback straps)

/-! ### RESTART taking effect (R21, R37, R79, R106, R151, R168, R175) -/

/-- A port reinitialised with its current settings (R136, R151). -/
def Port.reinitialised (x : Port) : Port :=
  { x with
    receiver := .hunt
    waitMark := true
    gapTimer := none
    sampler := none
    idleCount := 0
    lineIdle := false
    errorRun := 0
    tx := none }

/-- A coil at a RESTART (R79): OFFLINE and latched coils keep everything (R56: a latched coil its M too,
see serveResetCoil and log 28), the others enter STARTUP. -/
def State.restartCoil (s : State) (c : CoilId) : State :=
  match (s.coil c).state with
  | .offline => s
  | .startup => s.enterStartup c
  | .normal => s.enterStartup c
  | .watch => s.enterStartup c
  | .guard => s.enterStartup c
  | .trip => s
  | .lockout => s

/-- What a RESTART does outside the coils, points and records: ports, relay, transaction, pending
condition, carried marks (R151, R168, R175, R183). -/
def State.restartTraffic (s : State) : State :=
  { s with
    trunk := s.trunk.reinitialised
    branch := s.branch.reinitialised
    relayQueue := []
    trunkOut := { reserved := 0, filled := [] }
    txn := .idle
    fairness := 0
    noResponse := 0
    restartPending := false
    notice := s.notice.mapMarks Mark.uncarry }

/-- A RESTART takes effect: the traffic stops, every point starts its runtime again (R37), the coils
take their states (R79), the records are reinitialised and recomputed once (R106). -/
def State.restartNow (s : State) : State :=
  let s1 := s.restartTraffic
  let s2 := s1.withPoints (s1.points.map (Option.map (fun e => startEntry e.cfg s1.plantClock)))
  let s3 := coilIds.foldl State.restartCoil s2
  (s3.withRecords (s3.records.map (Option.map ActuatorRecord.reinitialised))).takeLevelsAndRecompute

end Sys2Proof.Machine
end

