-- ==== Sys2Proof/Machine/Ports.lean ====
section
/-! DEFINITION. The trunk transmitter and the samples of both ports (chapter 8, R122, R181, R182), and
the commands TRUNK_TRANSMISSION_BEGIN, TRUNK_TRANSMISSION_COMPLETE, COLLISION, LINE_IDLE_EVENT,
SAMPLE_AT_SPACE, SAMPLE_AT_MARK. -/

namespace Sys2Proof.Machine

/-! ### NOTICE (R181, R182) -/

/-- The moderation has passed, or the urgent mark waives it (R180, R181). -/
def State.moderationOpen (s : State) : Bool :=
  8 * s.globals.moderation ≤ s.notice.moderationTicks || s.notice.urgent.isSet

/-- A NOTICE is offered, but for the transmission under way (R181). -/
def State.noticeOffered (s : State) : Bool :=
  s.notice.nonEmpty && s.globals.noticesOn && s.trunkOut.filled.isEmpty && s.moderationOpen

/-- The coils in the pending set, ascending. -/
def State.pendingCoils (s : State) : List CoilId :=
  coilIds.filter (fun c => (s.notice.coils.getD c.val .clear).isSet)

/-- The flags byte of a NOTICE (R182). -/
def State.noticeFlags (s : State) : Nat :=
  bitIf s.fallback 1 + bitIf (s.contacts.recognition != .clear) 2 + bitIf s.notice.actuatorLost.isSet 4 +
  bitIf s.notice.portRestart.isSet 8 + bitIf s.notice.contactChange.isSet 16 +
  bitIf s.notice.plantTripEvent.isSet 32 + bitIf s.notice.fallbackChange.isSet 64

/-- The two-byte entry of a coil (R182). -/
def State.noticeEntry (s : State) (c : CoilId) : List Byte :=
  byteOf (16 * c.val + (s.coil c).state.code) ++ byteOf (causeCode (s.coil c).cause)

/-- The NOTICE as things stand at its building (R181, R182). -/
def State.buildNotice (s : State) : Telegram where
  dest := 240
  src := s.ownAddress
  kind := BitVec.ofNat 8 kindNotice
  payload := be32 s.plantClock ++ byteOf s.noticeFlags ++ s.pendingCoils.flatMap s.noticeEntry

/-! ### The trunk transmitter (R141, R144, R146) -/

/-- The trunk transmitter begins with a telegram. -/
def State.beginTrunk (s : State) (t : Telegram) (owner : TxOwner) : State :=
  s.updatePort .trunk (fun x => x.beginTransmission t.bytes false owner)

/-- The trunk's line idle condition is held and no transmission of its own is under way (R141). -/
def State.trunkFree (s : State) : Bool := s.trunk.lineIdle && s.trunk.tx.isNone

/-- TRUNK_TRANSMISSION_BEGIN (R141, R154, R181): the first filled telegram, or with none filled a NOTICE
that is offered, built in this event (R182). With neither, or a line that is not idle, nothing begins
(log 9). -/
def execTrunkTransmissionBegin (s : State) : Host.Outcome State Fault Refusal :=
  .next (
    if s.trunkFree then
      match s.trunkOut.filled with
      | first :: _ => s.beginTrunk first.telegram .listHead
      | [] =>
        if s.noticeOffered then
          (s.withNotice (s.notice.mapMarks Mark.carry)).beginTrunk s.buildNotice .notice
        else s
    else s)

/-- A NOTICE has left intact (R182). -/
def State.noticeLeft (s : State) : State :=
  s.withNotice { s.notice.mapMarks Mark.depart with moderationTicks := 0 }

/-- The SET-PORTS reply that stands for what is staged has left: the global settings come into force, and
the port settings wait for each port's line-idle event (R139, R176). -/
def State.setPortsReplyLeft (s : State) : State :=
  (s.withGlobals (s.staged.globals.getD s.globals)).withStaged
    { s.staged with globals := none, replyLeft := true }

/-- What waits for the departure of a trunk telegram (R146). -/
def State.replyLeft (s : State) (role : ReplyRole) : State :=
  match role with
  | .plain => s
  | .setPorts => s.setPortsReplyLeft
  | .restart => s.restartNow

/-- A completion handed to the trunk output list: the first place becomes free (R146, R154). -/
def State.listHeadLeft (s : State) : State :=
  match s.trunkOut.filled with
  | [] => s
  | first :: rest => (s.withTrunkOut { s.trunkOut with filled := rest }).replyLeft first.role

/-- A trunk transmission leaves intact; the completion is handed to its owner (R146). -/
def State.trunkLeft (s : State) (t : Transmission) : State :=
  let s1 := s.updatePort .trunk Port.endTransmission
  match t.owner with
  | .listHead => s1.listHeadLeft
  | .notice => s1.noticeLeft
  | .branchRequest => s1

/-- TRUNK_TRANSMISSION_COMPLETE (R146). Without a transmission under way none completes (log 9). -/
def execTrunkTransmissionComplete (s : State) : Host.Outcome State Fault Refusal :=
  .next (
    match s.trunk.tx with
    | none => s
    | some t => s.trunkLeft t)

/-- A NOTICE lost to collision is discarded; its content stays pending, the carried marks removed
(R144, R182). -/
def State.noticeLost (s : State) (owner : TxOwner) : State :=
  match owner with
  | .notice => s.withNotice (s.notice.mapMarks Mark.uncarry)
  | .listHead => s
  | .branchRequest => s

/-- A read-back mismatch on the trunk (R144): the transmission stops, the telegram stays first, COLLISION
is counted. -/
def State.collide (s : State) (t : Transmission) : State :=
  ((s.updatePort .trunk Port.endTransmission).count .trunk
    (fun k => { k with collision := bump k.collision })).noticeLost t.owner

/-- COLLISION (R144). A mismatch needs a transmission under way (log 9). -/
def execCollision (s : State) : Host.Outcome State Fault Refusal :=
  .next (
    match s.trunk.tx with
    | none => s
    | some t => s.collide t)

/-! ### The idle line (R139, R140) -/

/-- A port takes new settings (R136, R139, R151): its receiver in HUNT waiting for mark, its idle count
0. -/
def Port.takeSettings (x : Port) (settings : PortSettings) : Port :=
  { x with
    settings := settings
    receiver := .hunt
    waitMark := true
    gapTimer := none
    sampler := none
    idleCount := 0
    lineIdle := false }

/-- Staged trunk settings take effect (R139). -/
def State.applyTrunk (s : State) (p : PortSettings) : State :=
  (s.updatePort .trunk (fun x => x.takeSettings p)).withStaged { s.staged with trunk := none }

/-- Staged branch settings take effect (R139), ending a transaction in RECEIVING with BAD-RESPONSE
(R162). -/
def State.applyBranch (s : State) (p : PortSettings) (timeout : Nat) : State :=
  (((s.updatePort .branch (fun x => x.takeSettings p)).withResponseTimeout timeout).withStaged
    { s.staged with branch := none }).endIfReceiving .badResponse

/-- Settings staged for a port take effect at its first line-idle event after the SET-PORTS reply has
left (R139). -/
def State.applyStaged (s : State) (p : PortId) : State :=
  if s.staged.replyLeft then
    match p with
    | .trunk =>
      match s.staged.trunk with
      | none => s
      | some q => s.applyTrunk q
    | .branch =>
      match s.staged.branch with
      | none => s
      | some q => s.applyBranch q.1 q.2
  else s

/-- The line-idle event of a port (R140): its 176 samples at mark have ended a wait for mark (R123) and
a rest at space (R149). -/
def State.lineIdles (s : State) (p : PortId) : State :=
  (s.updatePort p (fun x => { x with
    idleCount := characterSamples, lineIdle := true, waitMark := false, spaceRun := 0 })).applyStaged p

/-- LINE_IDLE_EVENT (R140). While a transmission lasts the count stays at 0, and one event is raised per
idle period; nothing takes place otherwise (log 9). -/
def execLineIdleEvent (p : PortId) (s : State) : Host.Outcome State Fault Refusal :=
  .next (if (s.port p).tx.isNone ∧ (s.port p).lineIdle = false then s.lineIdles p else s)

/-! ### Samples (R122, R140, R143) -/

/-- A sample while the port transmits: it is read back (R143). A mismatch at the decision of the tenth
sample stops the transmission; the end of the last bit time completes it; the end of the mark after a
break moves the transaction to SENDING. -/
def State.readBack (s : State) (p : PortId) (t : Transmission) (l : Level) : State :=
  let phase := t.elapsed % samplesPerBit
  let next := t.elapsed + 1
  if phase = 9 ∧ majority t.eighth t.ninth l ≠ t.levelSent (t.elapsed / samplesPerBit) then
    match p with
    | .trunk => s.collide t
    | .branch => s.lineFaults
  else
    let s1 := s.updatePort p (fun x => { x with tx := some { t with
      elapsed := next
      eighth := if phase = 7 then l else t.eighth
      ninth := if phase = 8 then l else t.ninth } })
    if next = samplesPerBit * t.totalBits then
      match p with
      | .trunk => s1.trunkLeft t
      | .branch => s1.branchLeft
    else if p = .branch ∧ t.withBreak ∧ next = samplesPerBit * breakEndBits then s1.endBreak
    else s1

/-- The first sample at space begins a start bit and stops the gap timer (R122, R134). -/
def Port.startBit (x : Port) : Port :=
  { x with
    gapTimer := none
    sampler := some { index := 1, eighth := .mark, ninth := .mark, bits := [], noise := false,
                      gapLeft := x.gapTimer } }

/-- A false start (R122): the receiver waits again for a sample at space; how a gap timer that it stopped
goes on is a free value (R134, log 10). -/
def Port.falseStart (x : Port) (gapLeft : Option Nat) : Port :=
  match gapLeft with
  | none => { x with sampler := none }
  | some n => { x with sampler := none, gapTimer := Config.gapAfterFalseStart n }

/-- The character that eleven decided bits make, start bit first (R121, R122). -/
def charOfBits (bits : List Bool) (noise : Bool) : LineChar where
  data := BitVec.ofNat 8 (maskOf ((bits.drop 1).take 8))
  markBit := bits.getD 9 false
  stopMark := bits.getD 10 false
  noise := noise

/-- One more sample of the character being sampled (R122): the eighth and ninth are kept, the tenth
decides the bit by majority. A start bit decided at mark was a false start; a decided stop bit ends the
character, which is taken at that moment. -/
def State.sampleChar (s : State) (p : PortId) (c : CharSampler) (l : Level) : State :=
  let phase := c.index % samplesPerBit
  if phase = 9 then
    let level := majority c.eighth c.ninth l
    let bits := c.bits ++ [level == .mark]
    let noise := c.noise || !(c.eighth == c.ninth && c.ninth == l)
    if bits.length = 1 ∧ level = .mark then s.updatePort p (fun x => x.falseStart c.gapLeft)
    else if bits.length = 11 then s.takeChar p (charOfBits bits noise)
    else s.updatePort p (fun x =>
      { x with sampler := some { c with index := c.index + 1, bits := bits, noise := noise } })
  else s.updatePort p (fun x =>
    { x with sampler := some { c with
        index := c.index + 1
        eighth := if phase = 7 then l else c.eighth
        ninth := if phase = 8 then l else c.ninth } })

/-- How long the line has rested at space, up to one character time (R149). -/
def Port.trackSpace (x : Port) (l : Level) : Port :=
  { x with spaceRun := match l with | .mark => 0 | .space => min characterSamples (x.spaceRun + 1) }

/-- Every branch sample counts for a turnaround (R161). -/
def State.trackTurnaround (s : State) (p : PortId) : State :=
  match p with
  | .trunk => s
  | .branch => s.countTurnaround

/-- A sample at space on a line the port does not drive (R122, R134, R140). -/
def State.receiveSpace (s : State) (p : PortId) : State :=
  let s1 := s.updatePort p (fun x => { x with idleCount := 0, lineIdle := false })
  match (s1.port p).sampler with
  | some c => s1.sampleChar p c .space
  | none => if (s1.port p).waitMark then s1 else s1.updatePort p Port.startBit

/-- The gap timer counts a sample at mark, and expires when none is left (R134). -/
def State.countGap (s : State) (p : PortId) : State :=
  match (s.port p).gapTimer with
  | none => s
  | some n =>
    if n ≤ 1 then s.gapExpires p else s.updatePort p (fun x => { x with gapTimer := some (n - 1) })

/-- The idle count goes up by one sample at mark; at 176 the port raises its line-idle event (R140). -/
def State.countIdle (s : State) (p : PortId) : State :=
  if (s.port p).idleCount + 1 < characterSamples then
    s.updatePort p (fun x => { x with idleCount := x.idleCount + 1 })
  else if (s.port p).lineIdle then s
  else s.lineIdles p

/-- A sample at mark on a line the port does not drive: the receiver no longer waits for mark (R123), a
character being sampled or the gap timer goes on, and the idle count goes up (R140). DESIGN CHOICE (log 31,
unsafe): the events that one sample completes are taken in this order, so a gap timer's expiry (R134) comes
before the line-idle event of the same sample (R140). Staged settings (R139) then find the expiry counted,
and a wait for mark that a port restart after it begins (R148) is ended by that line-idle event. -/
def State.receiveMark (s : State) (p : PortId) : State :=
  let s1 := s.updatePort p (fun x => { x with waitMark := false })
  let s2 :=
    match (s1.port p).sampler with
    | some c => s1.sampleChar p c .mark
    | none => s1.countGap p
  s2.countIdle p

/-- SAMPLE_AT_SPACE (R122, R134, R140, R143). -/
def execSampleAtSpace (p : PortId) (s : State) : Host.Outcome State Fault Refusal :=
  .next (
    let s1 := (s.updatePort p (fun x => x.trackSpace .space)).trackTurnaround p
    match (s1.port p).tx with
    | some t => s1.readBack p t .space
    | none => s1.receiveSpace p)

/-- SAMPLE_AT_MARK (R122, R123, R134, R140, R143). -/
def execSampleAtMark (p : PortId) (s : State) : Host.Outcome State Fault Refusal :=
  .next (
    let s1 := (s.updatePort p (fun x => x.trackSpace .mark)).trackTurnaround p
    match (s1.port p).tx with
    | some t => s1.readBack p t .mark
    | none => s1.receiveMark p)

end Sys2Proof.Machine
end

