-- ==== Sys2Proof/Machine/Dispatch.lean ====
section
/-! DEFINITION. exec: the meaning of every command of the table. -/

namespace Sys2Proof.Machine

def exec (i : Instr) (s : State) : Host.Outcome State Fault Refusal :=
  match i with
  | .powerOnReset straps => Sys2Proof.Machine.execPowerOnReset straps s
  | .loadCoil src args => Sys2Proof.Machine.execLoadCoil src args s
  | .loadPoint src args => Sys2Proof.Machine.execLoadPoint src args s
  | .clearPoint src args => Sys2Proof.Machine.execClearPoint src args s
  | .loadRule src args => Sys2Proof.Machine.execLoadRule src args s
  | .clearRule src args => Sys2Proof.Machine.execClearRule src args s
  | .loadRelaySet src args => Sys2Proof.Machine.execLoadRelaySet src args s
  | .enableCoil src args => Sys2Proof.Machine.execEnableCoil src args s
  | .disableCoil src args => Sys2Proof.Machine.execDisableCoil src args s
  | .resetCoil src args => Sys2Proof.Machine.execResetCoil src args s
  | .setPorts src args => Sys2Proof.Machine.execSetPorts src args s
  | .status src args => Sys2Proof.Machine.execStatus src args s
  | .readCounters src args => Sys2Proof.Machine.execReadCounters src args s
  | .commit src args => Sys2Proof.Machine.execCommit src args s
  | .restart src args => Sys2Proof.Machine.execRestart src args s
  | .coilDetail src args => Sys2Proof.Machine.execCoilDetail src args s
  | .readPoints src args => Sys2Proof.Machine.execReadPoints src args s
  | .readActuator src args => Sys2Proof.Machine.execReadActuator src args s
  | .commitWriteEnd success => Sys2Proof.Machine.execCommitWriteEnd success s
  | .characterReceived p ch => Sys2Proof.Machine.execCharacterReceived p ch s
  | .gapTimerExpiry p => Sys2Proof.Machine.execGapTimerExpiry p s
  | .telegramComplete p last noise => Sys2Proof.Machine.execTelegramComplete p last noise s
  | .responseTimeout => Sys2Proof.Machine.execResponseTimeout s
  | .turnaroundEnd => Sys2Proof.Machine.execTurnaroundEnd s
  | .lineIdleEvent p => Sys2Proof.Machine.execLineIdleEvent p s
  | .branchGrant => Sys2Proof.Machine.execBranchGrant s
  | .trunkTransmissionBegin => Sys2Proof.Machine.execTrunkTransmissionBegin s
  | .collision => Sys2Proof.Machine.execCollision s
  | .branchLineFault => Sys2Proof.Machine.execBranchLineFault s
  | .trunkTransmissionComplete => Sys2Proof.Machine.execTrunkTransmissionComplete s
  | .branchTransmissionComplete => Sys2Proof.Machine.execBranchTransmissionComplete s
  | .evaluation c => Sys2Proof.Machine.execEvaluation c s
  | .debouncedContactChange n newState => Sys2Proof.Machine.execDebouncedContactChange n newState s
  | .contactSettling => Sys2Proof.Machine.execContactSettling s
  | .debouncedSenseChange high => Sys2Proof.Machine.execDebouncedSenseChange high s
  | .releaseTimerExpiry => Sys2Proof.Machine.execReleaseTimerExpiry s
  | .pointAgeExpiry n => Sys2Proof.Machine.execPointAgeExpiry n s
  | .pollTimerExpiry n => Sys2Proof.Machine.execPollTimerExpiry n s
  | .refreshTimerExpiry r => Sys2Proof.Machine.execRefreshTimerExpiry r s
  | .tick contacts senseHigh => Sys2Proof.Machine.execTick contacts senseHigh s
  | .plantClockIncrement => Sys2Proof.Machine.execPlantClockIncrement s
  | .sampleAtSpace p => Sys2Proof.Machine.execSampleAtSpace p s
  | .sampleAtMark p => Sys2Proof.Machine.execSampleAtMark p s
  | .breakEnd => Sys2Proof.Machine.execBreakEnd s

end Sys2Proof.Machine
end

