-- ==== Sys2Proof/Machine/Step.lean ====
section
/-! DEFINITION. step: the front command of the queue, and withFetchWord. -/

namespace Sys2Proof.Machine

/-- One step: the front command is taken from the queue and executed; with none waiting the block idles
(DESIGN CHOICE, log 2). -/
def step (s : State) : Host.Outcome State Fault Refusal :=
  match s.pending with
  | [] => .next s
  | c :: rest => exec c (s.withPending rest)

/-- The command that a word spells put at the front of the queue; the state unchanged where the word
spells none. The table gives no row any bits, so none does (log 15). -/
def State.withFetchWord (s : State) (nbits w : Nat) : State :=
  match Sys2Proof.decodeTableWord nbits w with
  | some c => s.withPending (c :: s.pending)
  | none => s

end Sys2Proof.Machine
end

