-- ==== Sys2Proof/Machine/Pins.lean ====
section
/-! DEFINITION. The pins and the clocks as the state gives them: the bit rate (R137), the line polarity
(R138), the driver enables (R141), the transmit pins, and PTRIP_OUT (R114). No command reads them. -/

namespace Sys2Proof.Machine

/-- Periods of the 7.3728 MHz crystal in one bit time (R137). -/
def PortSettings.bitPeriods (x : Sys2Proof.PortSettings) : Nat := 16 * (x.divisor + 1)

/-- The level that a receive pin gives, `true` for sampled high (R138). -/
def levelOfPin (polarity : Polarity) (high : Bool) : Level :=
  match polarity with
  | .normal => levelOfBit high
  | .inverted => levelOfBit !high

/-- The pin that carries a level sent, `true` for driven high (R138). -/
def pinOfLevel (polarity : Polarity) (l : Level) : Bool :=
  match polarity with
  | .normal => l == .mark
  | .inverted => l == .space

/-- The level on the transmit pin of a port: the level sent during a transmission (R121, R141), and mark
between transmissions, while the driver is released (DESIGN CHOICE, log 27). -/
def Port.sending (x : Port) : Level :=
  match x.tx with
  | none => .mark
  | some t => t.levelSent (t.elapsed / samplesPerBit)

/-- TXD of a port (R138). -/
def Port.txdPin (x : Port) : Bool := pinOfLevel x.settings.polarity x.sending

/-- TK_DE: asserted during each bit time sent at space (R141). -/
def State.tkDe (s : State) : Bool := s.trunk.tx.isSome && s.trunk.sending == .space

/-- BR_DE: asserted for the whole of a transmission (R141). -/
def State.brDe (s : State) : Bool := s.branch.tx.isSome

/-- TK_TXD. -/
def State.tkTxd (s : State) : Bool := s.trunk.txdPin

/-- BR_TXD. -/
def State.brTxd (s : State) : Bool := s.branch.txdPin

/-- PTRIP_OUT drives the plant trip line low (R114). -/
def State.ptripLow (s : State) : Bool := s.contacts.driven

end Sys2Proof.Machine
end

