-- ==== Sys2Proof/Safety.lean ====
section
/-! DEFINITION. The terms in which claims speak of the part: the management requests as a family, the
laws the manual gives for the whole part (as invariants of State), and the replies a claim expects. -/

namespace Sys2Proof.Machine

/-! ### Management requests as a family -/

/-- The requester's address and the request code of an ADMIN row (R171, R179); none for other rows. -/
def adminRequest : Instr → Option (Byte × Byte)
  | .loadCoil src _ => some (src, 0x01#8)
  | .loadPoint src _ => some (src, 0x02#8)
  | .clearPoint src _ => some (src, 0x03#8)
  | .loadRule src _ => some (src, 0x04#8)
  | .clearRule src _ => some (src, 0x05#8)
  | .loadRelaySet src _ => some (src, 0x06#8)
  | .enableCoil src _ => some (src, 0x07#8)
  | .disableCoil src _ => some (src, 0x08#8)
  | .resetCoil src _ => some (src, 0x09#8)
  | .setPorts src _ => some (src, 0x0A#8)
  | .status src _ => some (src, 0x0B#8)
  | .readCounters src _ => some (src, 0x0C#8)
  | .commit src _ => some (src, 0x0D#8)
  | .restart src _ => some (src, 0x0E#8)
  | .coilDetail src _ => some (src, 0x0F#8)
  | .readPoints src _ => some (src, 0x10#8)
  | .readActuator src _ => some (src, 0x11#8)
  | .powerOnReset _ => none
  | .commitWriteEnd _ => none
  | .characterReceived _ _ => none
  | .gapTimerExpiry _ => none
  | .telegramComplete _ _ _ => none
  | .responseTimeout => none
  | .turnaroundEnd => none
  | .lineIdleEvent _ => none
  | .branchGrant => none
  | .trunkTransmissionBegin => none
  | .collision => none
  | .branchLineFault => none
  | .trunkTransmissionComplete => none
  | .branchTransmissionComplete => none
  | .evaluation _ => none
  | .debouncedContactChange _ _ => none
  | .contactSettling => none
  | .debouncedSenseChange _ => none
  | .releaseTimerExpiry => none
  | .pointAgeExpiry _ => none
  | .pollTimerExpiry _ => none
  | .refreshTimerExpiry _ => none
  | .tick _ _ => none
  | .plantClockIncrement => none
  | .sampleAtSpace _ => none
  | .sampleAtMark _ => none
  | .breakEnd => none

/-- The argument bytes of an ADMIN row; none for other rows. -/
def adminArgs : Instr → Option (List Byte)
  | .loadCoil _ args => some args
  | .loadPoint _ args => some args
  | .clearPoint _ args => some args
  | .loadRule _ args => some args
  | .clearRule _ args => some args
  | .loadRelaySet _ args => some args
  | .enableCoil _ args => some args
  | .disableCoil _ args => some args
  | .resetCoil _ args => some args
  | .setPorts _ args => some args
  | .status _ args => some args
  | .readCounters _ args => some args
  | .commit _ args => some args
  | .restart _ args => some args
  | .coilDetail _ args => some args
  | .readPoints _ args => some args
  | .readActuator _ args => some args
  | .powerOnReset _ => none
  | .commitWriteEnd _ => none
  | .characterReceived _ _ => none
  | .gapTimerExpiry _ => none
  | .telegramComplete _ _ _ => none
  | .responseTimeout => none
  | .turnaroundEnd => none
  | .lineIdleEvent _ => none
  | .branchGrant => none
  | .trunkTransmissionBegin => none
  | .collision => none
  | .branchLineFault => none
  | .trunkTransmissionComplete => none
  | .branchTransmissionComplete => none
  | .evaluation _ => none
  | .debouncedContactChange _ _ => none
  | .contactSettling => none
  | .debouncedSenseChange _ => none
  | .releaseTimerExpiry => none
  | .pointAgeExpiry _ => none
  | .pollTimerExpiry _ => none
  | .refreshTimerExpiry _ => none
  | .tick _ _ => none
  | .plantClockIncrement => none
  | .sampleAtSpace _ => none
  | .sampleAtMark _ => none
  | .breakEnd => none

/-- The request codes refused BUSY while a COMMIT is in flight (R174). -/
def refusedDuringCommit (code : Byte) : Bool :=
  [0x01#8, 0x02#8, 0x03#8, 0x04#8, 0x05#8, 0x06#8, 0x0A#8, 0x0E#8, 0x0D#8].contains code

/-- An ADMIN request is taken and served: a place can be reserved (R157), no RESTART is pending (R175)
and no COMMIT is in flight (R174). -/
def State.takesRequests (s : State) : Prop :=
  s.trunkOut.canReserve = true ∧ s.restartPending = false ∧ s.commit = none

/-- An ADMIN-REPLY (R171), its KIND 7 with ALTERED clear. -/
def State.replyTo (s : State) (src code result : Byte) (data : List Byte) : Telegram where
  dest := src
  src := s.ownAddress
  kind := 0x07#8
  payload := code :: result :: data

/-- A supervisor REFUSE with a reason code (R129): REFUSE with ALTERED set, LEN 1; bits 6 to 4 of its KIND at
0 (log 29). -/
def refusalOf (request : Telegram) (reason : Byte) : Telegram where
  dest := request.src
  src := request.dest
  kind := 0x85#8
  payload := [reason]

/-- The trunk output list with one more telegram at the end of the fill order (R154), for which nothing
waits. -/
def TrunkOut.adding (l : TrunkOut) (t : Telegram) : TrunkOut :=
  { l with filled := l.filled ++ [{ telegram := t, role := .plain }] }

/-- The trunk output list with a reserved place filled (R154). -/
def TrunkOut.answering (l : TrunkOut) (t : Telegram) : TrunkOut :=
  { reserved := l.reserved - 1, filled := l.filled ++ [{ telegram := t, role := .plain }] }

/-- A reply at the end of the fill order (R154, R171), which nothing waits for. -/
def State.replied (s : State) (src code result : Byte) (data : List Byte) : State :=
  { s with trunkOut := s.trunkOut.adding (s.replyTo src code result data) }

/-! ### What an evaluation leaves alone -/

/-- The two states agree in everything that the protection of coils does not own: all but coil records,
held levels, actuator records, the contact and trip-line block and the notice pending state. -/
def sameOutsideProtection (s t : State) : Prop :=
  t = { s with coils := t.coils, heldLevels := t.heldLevels, records := t.records,
               contacts := t.contacts, notice := t.notice }

/-- The two states agree in everything that line traffic does not own: all but the point runtime, the
actuator records, the ports, the relay, the branch transaction and the notice pending state. -/
def sameOutsideTraffic (s t : State) : Prop :=
  t = { s with points := t.points, records := t.records, trunk := t.trunk, branch := t.branch,
               relayQueue := t.relayQueue, trunkOut := t.trunkOut, txn := t.txn,
               fairness := t.fairness, noResponse := t.noResponse, notice := t.notice }

/-! ### A coil's change of state as a whole (R60, R114, R118) -/

/-- The contact and trip-line block after its drive has been derived as `want` (R114): nothing without a
change; a release ends the freeze, with the sense HIGH from a fresh debounce, and moves ASSERTED to
RELEASING with the release timer at `period` seconds (R116 to R118). -/
def ContactBlock.driveAfter (b : ContactBlock) (period : Nat) (want : Bool) : ContactBlock :=
  if want = b.driven then b
  else if want then { b with driven := true }
  else if b.recognition = .asserted then
    { b with driven := false, senseHigh := true, senseRun := 0, recognition := .releasing,
             releaseTimer := some (8 * period) }
  else { b with driven := false, senseHigh := true, senseRun := 0 }

/-- The plant-trip event after the block became `now` (R119): set by a change of the recognition. -/
def plantTripEventAfter (before now : ContactBlock) (mark : Mark) : Mark :=
  if now.recognition = before.recognition then mark else .set

/-- The actuator records after coil `c` handed over a level with held levels `levels` (R85): those that
a rule of the coil names are recomputed. -/
def State.recordsAfterLevel (s : State) (c : CoilId) (levels : List Nat) : List (Option ActuatorRecord) :=
  s.records.map (Option.map (fun r =>
    if namedByCoil s.rules c r then recomputeRecord s.rules levels s.plantClock r else r))

/-- A coil's change of state and everything that goes with it (R60): `t` is `s` after coil `c`, whose
record the event has otherwise made `k`, has entered a state with a cause. -/
structure Entered (s t : State) (c : CoilId) (k : Coil) (new : CoilState) (cause : Option Cause) :
    Prop where
  frame : sameOutsideProtection s t
  coils : t.coils =
    s.coils.set c.val { k with state := new, cause := cause, entryTime := s.plantClock, dwell := 0 }
  heldLevels : t.heldLevels =
    if new.level = k.state.level then s.heldLevels else s.heldLevels.set c.val new.level
  records : t.records =
    if new.level = k.state.level then s.records else s.recordsAfterLevel c t.heldLevels
  contacts : t.contacts = s.contacts.driveAfter s.globals.plantTripRelease t.wantsDrive
  notice : t.notice = { s.notice with
    coils := s.notice.coils.set c.val .set,
    urgent := if new.latched then .set else s.notice.urgent,
    plantTripEvent := plantTripEventAfter s.contacts t.contacts s.notice.plantTripEvent }

/-- A coil record after a trip found at a time (R65), before its state changes: the time joins the trip
history, at most 4, and the auto-reset timer starts again. -/
def Coil.tripRecorded (k : Coil) (clock : Nat) : Coil :=
  { k with tripHistory := (k.tripHistory ++ [clock]).drop (k.tripHistory.length + 1 - 4),
           autoResetTimer := 0 }

/-- The state that a trip at a time leads to (R65): LOCKOUT when enough times of the trip history lie
within lockout_window. -/
def Coil.tripState (k : Coil) (clock : Nat) : CoilState :=
  if k.cfg.lockoutCount ≤
      ((k.tripRecorded clock).tripHistory.filter (fun x => clock - x ≤ k.cfg.lockoutWindow)).length
  then .lockout else .trip

/-- A coil trips with a cause (R65). -/
def Tripped (s t : State) (c : CoilId) (k : Coil) (cause : Cause) : Prop :=
  Entered s t c (k.tripRecorded s.plantClock) (k.tripState s.plantClock) (some cause)

/-- The evaluation runtime of R56's first rows: nothing known, D 0, the ring empty. -/
def clearedRuntime : EvalRuntime where
  n := 0
  tf := none
  tw := none
  m := none
  slope := none
  mp := none
  dose := 0
  degraded := false
  sensingLost := false
  waterInPlace := false
  ring := []

/-- A coil record as it enters STARTUP (R68, R56): the evaluation runtime and the timers start afresh and
the evaluation timer runs. -/
def Coil.started (k : Coil) : Coil :=
  { k with unknown := 0, autoResetTimer := 0, coldWeather := false, eval := clearedRuntime,
           evalTimer := true }

/-! ### What an evaluation finds and stores (chapter 3) -/

/-- The value of a VALID point with its offset (R35, R42). -/
def validReading (e : PointEntry) (v : Int) : Prop :=
  e.rt.state = .valid ∧ ∃ raw, e.rt.lastValue = some raw ∧ v = raw + e.cfg.offset

/-- The entry of the point map with a property, the first in index order; `none` where there is none. R8
allows one WATER point for each coil and one OAT point. -/
def firstPoint (s : State) (wanted : PointConfig → Prop) : Option PointEntry → Prop
  | none => ∀ e, some e ∈ s.points → ¬ wanted e.cfg
  | some e => ∃ i : Nat, s.points[i]? = some (some e) ∧ wanted e.cfg ∧
      ∀ j e', j < i → s.points[j]? = some (some e') → ¬ wanted e'.cfg

/-- The results that an evaluation stores (R42 to R50), from the values of the coil's VALID FACE points,
its WATER point and the runtime before. -/
structure StoredResults (k : CoilConfig) (values : List Int) (water : Option PointEntry)
    (before after : EvalRuntime) : Prop where
  count : after.n = values.length
  faceUnknown : values = [] → after.tf = none
  face : ∀ least ∈ values, (∀ v ∈ values, least ≤ v) → after.tf = some (saturate16
    (if k.faceQuorum ≤ values.length then least else least - k.degradeMargin))
  degraded : after.degraded = true ↔ values.length < k.faceQuorum ∨ values = []
  waterKnown : ∀ e v, water = some e → validReading e v → after.tw = some (saturate16 v)
  waterUnknown : (∀ e v, water = some e → ¬ validReading e v) → after.tw = none
  waterInPlace : after.waterInPlace = true ↔ ∀ e, water = some e → e.rt.state = .valid
  margin : after.m =
    match after.tf, after.tw with
    | some f, some w => some (saturate16 (min (f - k.airLimit) (w - k.waterLimit)))
    | some f, none => some (saturate16 (f - k.airLimit))
    | none, some w => some (saturate16 (w - k.waterLimit))
    | none, none => none
  sensingLost : after.sensingLost = true ↔ after.m = none
  ringEmptied : after.tf = none → after.ring = [] ∧ after.slope = none
  ring : ∀ f, after.tf = some f →
    after.ring = (before.ring ++ [f]).drop (before.ring.length + 1 - 8)
  slopeFlat : after.tf ≠ none → after.ring.length < 4 → after.slope = some 0
  slope : ∀ f oldest, after.tf = some f → after.ring.head? = some oldest → 4 ≤ after.ring.length →
    after.slope = some (saturate16 (Int.tdiv (f - oldest) ((after.ring.length : Int) - 1)))
  predicted : ∀ m sl, after.m = some m → after.slope = some sl →
    after.mp = some (saturate16 (m + min sl 0 * (k.lookahead : Int)))
  predictedWithoutSlope : ∀ m, after.m = some m → after.slope = none → after.mp = some m
  predictedUnknown : after.m = none → after.mp = none ∧ after.dose = before.dose
  doseGrows : ∀ mp, after.mp = some mp → mp < 0 →
    (after.dose : Int) = min ((before.dose : Int) - mp) (4 * (k.tripDose : Int))
  doseShed : ∀ mp, after.mp = some mp → 0 ≤ mp →
    (after.dose : Int) = max 0 ((before.dose : Int) - (mp + (k.leak : Int)))

/-- The results of an evaluation of a coil as the points stand (R40 to R50). -/
def EvaluatesTo (s : State) (c : CoilId) (after : EvalRuntime) : Prop :=
  ∃ (values : List Int) (water : Option PointEntry),
    values.length = ((s.points.filterMap id).filter (fun e => e.cfg.owner == .coil c &&
      Machine.Role.isFace e.cfg.role && e.rt.state == .valid && e.rt.lastValue.isSome)).length ∧
    (∀ v, v ∈ values ↔ ∃ e, some e ∈ s.points ∧ e.cfg.owner = .coil c ∧
      (∃ i, e.cfg.role = .face i) ∧ validReading e v) ∧
    firstPoint s (fun p => p.owner = .coil c ∧ p.role = .water) water ∧
    StoredResults (s.coil c).cfg values water (s.coil c).eval after

/-- The OAT point tells no temperature of `limit` or more: there is none, it is not VALID, or its value with
its offset is below (R63, R66). -/
def outdoorColdOrLost (s : State) (limit : Int) : Prop :=
  ∀ e v, firstPoint s (fun p => p.role = .oat) (some e) → validReading e v → v < limit

/-- The coil record of an evaluation after its results are stored and the timers and COLD-WEATHER set
(R61 to R63), before any test. -/
structure EvaluatedRecord (s : State) (c : CoilId) (k : Coil) : Prop where
  results : EvaluatesTo s c k.eval
  record : k = { s.coil c with
    eval := k.eval,
    dwell := min 65535 ((s.coil c).dwell + 1),
    unknown := if k.eval.sensingLost then min 65535 ((s.coil c).unknown + 1) else 0,
    coldWeather := k.coldWeather }
  coldWeather : k.coldWeather = true ↔
    ∃ limit, (s.coil c).cfg.coldWeatherOat = some limit ∧ outdoorColdOrLost s limit

/-- A contact input reads a state (R108): the block is settled and the input's debounced state is that. -/
def inputReads (b : ContactBlock) (i : Fin 16) (c : ContactState) : Prop :=
  b.settled = true ∧ ∃ x, b.inputs[i.val]? = some x ∧ x.debounced = c

/-! ### Laws of the part -/

/-- The tables of an image have the sizes of the part's tables. -/
structure ImageShaped (m : ImageContents) : Prop where
  coils : m.coils.length = 16
  points : m.points.length = 96
  rules : m.rules.length = 48

/-- The tables have their sizes (00_scope.md, Capacities at a glance). -/
structure State.ShapeLaw (s : State) : Prop where
  coils : s.coils.length = 16
  points : s.points.length = 96
  rules : s.rules.length = 48
  records : s.records.length = 48
  heldLevels : s.heldLevels.length = 16
  inputs : s.contacts.inputs.length = 16
  noticeCoils : s.notice.coils.length = 16
  image : ∀ m, s.store.contents = some m → ImageShaped m
  writing : ∀ q, s.commit = some q → ImageShaped q.contents

/-- A relayed transaction is outstanding. -/
def State.relayedOutstanding (s : State) : Bool :=
  match s.txn with
  | .outstanding _ t =>
    match t.origin with
    | .relayed _ => true
    | _ => false
  | _ => false

/-- Places and requests agree (R153 to R155, R157, R173, R175): every reservation belongs to an entry
of the relay queue, to the outstanding relayed transaction or to the COMMIT in flight. -/
structure State.PlacesLaw (s : State) : Prop where
  queue : s.relayQueue.length ≤ 7
  reserved : s.trunkOut.reserved = s.relayQueue.length + bitIf s.relayedOutstanding 1 + bitIf s.commit.isSome 1
  limit : s.trunkOut.reserved ≤ 7
  places : s.trunkOut.reserved + s.trunkOut.filled.length ≤ 10
  restart : s.restartPending = true → s.commit = none
  restartReply : ∀ o ∈ s.trunkOut.filled, o.role = .restart → s.restartPending = true

/-- The override unit holds each coil's level, and the constraint of every actuator record is the one
that the active rules give (R82, R83, R85). -/
structure State.OverrideLaw (s : State) : Prop where
  levels : s.heldLevels = s.coils.map (fun k => k.state.level)
  constraints : ∀ r, some r ∈ s.records →
    r.constraint = constraintOf (activeRules s.rules s.heldLevels r.station r.channel)

/-- The plant trip output is driven exactly when R114 says so. -/
structure State.TripLineLaw (s : State) : Prop where
  inputs : s.contacts.inputs.length = 16
  driven : s.contacts.driven = s.wantsDrive

/-- The causes a state may carry (R58). -/
def causesOf : CoilState → List (Option Cause)
  | .offline => [none]
  | .startup => [none]
  | .normal => [none]
  | .watch => [some .margin, some .coldWeather]
  | .guard => [some .margin, some .dose, some .sensing, some .plant, some .reset]
  | .trip => [some .dose, some .hard, some .contact, some .blind]
  | .lockout => [some .dose, some .hard, some .contact, some .blind]

/-- The runtime of a coil record as R18, R19, R39, R50, R56, R58 and R59 bound it. -/
structure Coil.RuntimeLaw (k : Coil) : Prop where
  cause : k.cause ∈ causesOf k.state
  timer : k.evalTimer = (k.state != .offline)
  outOfService : k.state = .offline → k.eval = .initial ∧ k.tripHistory = []
  dose : k.eval.dose ≤ 4 * k.cfg.tripDose
  ring : k.eval.ring.length ≤ 8
  history : k.tripHistory.length ≤ 4
  dwell : k.dwell ≤ 65535
  unknown : k.unknown ≤ 65535
  autoReset : k.autoResetTimer ≤ 3600

/-- Every coil record obeys its law. -/
def State.CoilsLaw (s : State) : Prop := ∀ k ∈ s.coils, k.RuntimeLaw

/-- The ranges of R1's table. -/
structure ConfigInRange (k : CoilConfig) : Prop where
  faceQuorum : 1 ≤ k.faceQuorum ∧ k.faceQuorum ≤ 6
  airLimit : -1000 ≤ k.airLimit ∧ k.airLimit ≤ 800
  waterLimit : -1500 ≤ k.waterLimit ∧ k.waterLimit ≤ 1000
  watchBand : 0 ≤ k.watchBand ∧ k.watchBand ≤ 1000
  guardBand : 0 ≤ k.guardBand ∧ k.guardBand ≤ k.watchBand
  hysteresis : 10 ≤ k.hysteresis ∧ k.hysteresis ≤ 200
  hardBand : 50 ≤ k.hardBand ∧ k.hardBand ≤ 1000
  tripDose : 100 ≤ k.tripDose ∧ k.tripDose ≤ 60000
  leak : k.leak ≤ 500
  lookahead : k.lookahead ≤ 600
  degradeMargin : 0 ≤ k.degradeMargin ∧ k.degradeMargin ≤ 500
  watchDwell : k.watchDwell ≤ 3600
  guardDwell : 30 ≤ k.guardDwell ∧ k.guardDwell ≤ 3600
  startupHold : 10 ≤ k.startupHold ∧ k.startupHold ≤ 900
  autoReset : ∀ x, k.autoReset = some x → 60 ≤ x ∧ x ≤ 3600
  lockoutCount : 1 ≤ k.lockoutCount ∧ k.lockoutCount ≤ 4
  lockoutWindow : 600 ≤ k.lockoutWindow ∧ k.lockoutWindow ≤ 86400
  blindTripTime : k.blindTripTime = 0 ∨ (60 ≤ k.blindTripTime ∧ k.blindTripTime ≤ 3600)
  blindTripOat : -4000 ≤ k.blindTripOat ∧ k.blindTripOat ≤ 1000
  coldWeatherOat : ∀ x, k.coldWeatherOat = some x → -4000 ≤ x ∧ x ≤ 1000

/-- The ranges of R11's table that a rule's numbers obey. -/
structure RuleInRange (r : OverrideRule) : Prop where
  station : 1 ≤ r.station ∧ r.station ≤ 199
  channel : r.channel ≤ 63
  value : 0 ≤ r.value ∧ r.value ≤ 1000
  refresh : 5 ≤ r.refresh ∧ r.refresh ≤ 600

/-- The ranges of R6's table, with the clamps of R7: a poll_interval is 0, or at least 2 and below max_age. -/
structure PointInRange (p : PointConfig) : Prop where
  station : 1 ≤ p.station ∧ p.station ≤ 199
  channel : p.channel ≤ 63
  face : ∀ i, p.role = .face i → 1 ≤ i ∧ i ≤ 6
  offset : -200 ≤ p.offset ∧ p.offset ≤ 200
  maxAge : 5 ≤ p.maxAge ∧ p.maxAge ≤ 900
  pollInterval : p.pollInterval = 0 ∨ (2 ≤ p.pollInterval ∧ p.pollInterval < p.maxAge)

/-- A relay set as R16 bounds it: at most 32 stations, each 1 to 199, none twice. -/
structure RelaySetInRange (stations : List Nat) : Prop where
  length : stations.length ≤ 32
  station : ∀ a ∈ stations, 1 ≤ a ∧ a ≤ 199
  distinct : stations.Nodup

/-- The tables of an image hold values in range (R187). -/
structure ImageInRange (m : ImageContents) : Prop where
  relaySet : RelaySetInRange m.relaySet
  coils : ∀ q ∈ m.coils, ConfigInRange q.1
  points : ∀ p, some p ∈ m.points → PointInRange p
  rules : ∀ r, some r ∈ m.rules → RuleInRange r

/-- The image passes its check: its check word is the CRC over its contents (R184). -/
def Store.passesCheck (m : Store) : Prop :=
  m.condition = .valid ∧ ∃ x, m.contents = some x ∧ m.checkWord = some (crc16 (imageBytes x))

/-- The relay set and every coil record, point map entry and rule, in the tables, in the image and in the
contents a COMMIT is writing, hold values in range (R1, R6, R7, R11, R16, R187), and a valid image passes
its check (R184, R186). -/
structure State.TablesLaw (s : State) : Prop where
  relaySet : RelaySetInRange s.relaySet
  coils : ∀ k ∈ s.coils, ConfigInRange k.cfg
  points : ∀ e, some e ∈ s.points → PointInRange e.cfg
  rules : ∀ r, some r ∈ s.rules → RuleInRange r
  image : ∀ m, s.store.contents = some m → ImageInRange m
  writing : ∀ q, s.commit = some q → ImageInRange q.contents
  check : s.store.condition = .valid → s.store.passesCheck

/-- An actuator record as R14, R83, R86, R87 and R89 bound it. -/
structure ActuatorRecord.Law (r : ActuatorRecord) : Prop where
  station : 1 ≤ r.station ∧ r.station ≤ 199
  channel : r.channel ≤ 63
  bounds : ∀ k, r.constraint = some k → 0 ≤ k.lo ∧ k.lo ≤ 1000 ∧ 0 ≤ k.hi ∧ k.hi ≤ 1000
  command : ∀ v, r.cmdLast = some v → 0 ≤ v ∧ v ≤ 1000
  restore : ∀ t, r.need = .restore t → r.constraint = none ∧ r.cmdLast.isSome = true
  unbound : r.constraint = none → r.need = .none ∨ ∃ t, r.need = .restore t
  refresh : r.refreshTimer.isSome = r.constraint.isSome

/-- Every actuator record obeys its law, over tables that obey theirs. -/
structure State.RecordsLaw (s : State) : Prop where
  tables : s.TablesLaw
  records : ∀ r, some r ∈ s.records → r.Law

/-- No two entries of a table that are both occupied have the same key. -/
def keysDistinct {α κ : Type} (key : α → κ) (table : List (Option α)) : Prop :=
  ((table.filterMap id).map key).Nodup

/-- The key of a point map entry (R6). -/
def pointKey (p : PointConfig) : Nat × Nat := (p.station, p.channel)

/-- Owner and role of a point map entry; no two entries have the same (R8). -/
def pointDuty (p : PointConfig) : Owner × Role := (p.owner, p.role)

/-- The key of an override rule (R11). -/
def ruleKey (r : OverrideRule) : CoilId × Nat × Nat × RuleLevel := (r.coil, r.station, r.channel, r.level)

/-- The key of an actuator record (R14). -/
def recordKey (r : ActuatorRecord) : Nat × Nat := (r.station, r.channel)

/-- The tables of an image hold no key twice (R8, R11), and an OAT entry has PLANT as owner (R6). -/
structure ImageKeyed (m : ImageContents) : Prop where
  points : keysDistinct pointKey m.points
  duties : keysDistinct pointDuty m.points
  owners : ∀ p, some p ∈ m.points → ownerFitsRole p.owner p.role = true
  rules : keysDistinct ruleKey m.rules

/-- The tables hold no key twice, no two points the same duty (R8, R11, R14), and an actuator record
exists exactly while a rule names its pair (R14). -/
structure State.KeysLaw (s : State) : Prop where
  shape : s.ShapeLaw
  points : keysDistinct (fun e => pointKey e.cfg) s.points
  duties : keysDistinct (fun e => pointDuty e.cfg) s.points
  owners : ∀ e, some e ∈ s.points → ownerFitsRole e.cfg.owner e.cfg.role = true
  rules : keysDistinct ruleKey s.rules
  records : keysDistinct recordKey s.records
  named : ∀ key, (∃ r, some r ∈ s.records ∧ recordKey r = key) ↔
    (∃ q, some q ∈ s.rules ∧ (q.station, q.channel) = key)
  image : ∀ m, s.store.contents = some m → ImageKeyed m
  writing : ∀ q, s.commit = some q → ImageKeyed q.contents

end Sys2Proof.Machine
end

