-- ==== Sys2Proof/Certificates/Slice0/Obligations.lean ====
section
/-! DEFINITION. The statements for the provers. Each docstring says which words of the manual it
formalises. -/

open Sys2Proof Sys2Proof.Machine

/-! ### The machine -/

/-- 95_what_each_step_holds.md: each row is one step, whole. The queue and the idling are the task's and the
model's (log 2). -/
def Obligations.StepTakesTheFrontCommand : Prop :=
  ∀ (s : State) (c : Instr) (rest : List Instr),
    (s.pending = c :: rest → step s = exec c { s with pending := rest }) ∧
    (s.pending = [] → step s = .next s)

/-- Every command answers a next state and leaves the queue alone; the straps change at a power-on only, and
to the levels it samples (R190). The queue is the model's (log 2). -/
def Obligations.CommandsCompleteAndKeepQueueAndStraps : Prop :=
  ∀ (c : Instr) (s : State), ∃ t, exec c s = .next t ∧ t.pending = s.pending ∧
    match c with
    | .powerOnReset v => t.straps = v ∧ t.ownAddress.toNat = 200 + v.toNat
    | _ => t.straps = s.straps

/-! ### Time and points (chapter 2) -/

/-- R22: the plant clock counts seconds in 32 bits. Past its top the value is the model's free value (log
3), whatever it is. -/
def Obligations.PlantClockCountsSeconds : Prop :=
  ∀ (s : State),
    (s.plantClock < 4294967295 →
      exec .plantClockIncrement s = .next { s with plantClock := s.plantClock + 1 }) ∧
    (4294967295 ≤ s.plantClock → ∃ v : BitVec 32,
      exec .plantClockIncrement s = .next { s with plantClock := v.toNat, freeCount := s.freeCount + 1 })

/-- R27, R22, R29: an entry whose age expiry, its age base plus max_age plus 1, the clock has reached
becomes STALE and keeps all else; before that an expiry changes nothing. At its due time the poll timer
raises the poll need and stops; a stopped timer does nothing. That a command for an expiry that does not
stand changes nothing, and that the times have no upper bound, are the model's choices (logs 9, 26). -/
def Obligations.PointTimersExpire : Prop :=
  ∀ (s : State) (i : Fin 96) (e : PointEntry), s.points[i.val]? = some (some e) →
    (e.rt.ageBase + e.cfg.maxAge + 1 ≤ s.plantClock →
      exec (.pointAgeExpiry i) s = .next { s with
        points := s.points.set i.val (some { e with rt := { e.rt with state := .stale } }) }) ∧
    (s.plantClock < e.rt.ageBase + e.cfg.maxAge + 1 → exec (.pointAgeExpiry i) s = .next s) ∧
    (∀ due, e.rt.pollDue = some due → due ≤ s.plantClock →
      exec (.pollTimerExpiry i) s = .next { s with
        points := s.points.set i.val (some { e with rt := { e.rt with pollNeed := true, pollDue := none } }) }) ∧
    (e.rt.pollDue = none → exec (.pollTimerExpiry i) s = .next s)

/-- R25, R26, R30: an item with status 0 and a value of -5000 to 6000 makes its entry VALID with that value;
any other makes it FAULT, its last value kept. Either stores the status and the time, moves the age base,
clears the poll need and starts the poll timer of an entry with polling. The configuration stays. That the
due time has no upper bound is the model's choice (log 26). -/
def Obligations.ReportItemMakesValidOrFault : Prop :=
  ∀ (e : PointEntry) (clock : Nat) (status : Byte) (value : Int),
    (status = 0 ∧ -5000 ≤ value ∧ value ≤ 6000 →
      (e.takeItem clock status value).rt =
        { e.rt with state := .valid, lastValue := some value, lastStatus := some 0, lastSample := some clock,
                    ageBase := clock, pollNeed := false,
                    pollDue := if e.cfg.pollInterval = 0 then none else some (clock + e.cfg.pollInterval) }) ∧
    (status ≠ 0 ∨ value < -5000 ∨ 6000 < value →
      (e.takeItem clock status value).rt =
        { e.rt with state := .fault, lastStatus := some status, lastSample := some clock,
                    ageBase := clock, pollNeed := false,
                    pollDue := if e.cfg.pollInterval = 0 then none else some (clock + e.cfg.pollInterval) }) ∧
    (e.takeItem clock status value).cfg = e.cfg

/-! ### The refresh timer (R89) -/

/-- R89: at an expiry a need of NONE becomes REFRESH with the time of the expiry, any other need stays; the
timer goes on with the same period. A stopped timer does nothing. That the expiry of a stopped timer changes
nothing is the model's choice (log 9). -/
def Obligations.RefreshExpiryRaisesRefresh : Prop :=
  ∀ (s : State) (i : Fin 48) (r : ActuatorRecord), s.records[i.val]? = some (some r) →
    (∀ period, r.refreshTimer = some period → r.need = .none →
      exec (.refreshTimerExpiry i) s = .next { s with
        records := s.records.set i.val (some { r with need := .refresh s.plantClock }) }) ∧
    (r.need ≠ .none → exec (.refreshTimerExpiry i) s = .next s) ∧
    (r.refreshTimer = none → exec (.refreshTimerExpiry i) s = .next s)

/-! ### The branch transaction (chapter 9) -/

/-- The state after a result has ended a transaction, but for what the result delivers (R161, R167). -/
def afterResult (s : State) (noResponse : Nat) : State :=
  { s with noResponse := noResponse, txn := .turnaround 0 }

/-- A port whose transmission has ended (R136, R140): HUNT, waiting for mark, the idle count from 0. -/
def portReleased (x : Port) : Port :=
  { x with receiver := .hunt, waitMark := true, gapTimer := none, sampler := none, idleCount := 0,
           lineIdle := false, tx := none }

/-- The state after an own SET for a pair has ended without an answer (R99, R100): its record counts a
miss, waits 2 s (a time without an upper bound, log 26), and at the third miss in a row is LOST, which sets
the actuator LOST flag. -/
def recordMissed (s : State) (station channel : Nat) : State :=
  match recordFor s.records station channel with
  | none => s
  | some r => { s with
      records := s.records.map (Option.map (fun (x : ActuatorRecord) =>
        if x.station = station ∧ x.channel = channel then
          { x with missCount := min 3 (x.missCount + 1), retryNotBefore := some (s.plantClock + 2),
                   lost := x.lost || decide (x.missCount = 2) }
        else x)),
      notice := { s.notice with
        actuatorLost := if r.missCount = 2 then .set else s.notice.actuatorLost } }

/-- The state after an own transaction has ended with another result than ANSWERED (R166): an own SET acts
on its record, if that has not been removed (R15); an own READ changes nothing. -/
def endedInside (s : State) (q : Transaction) (noResponse : Nat) : State :=
  match q.origin with
  | .ownSet station channel true => afterResult (recordMissed s station channel) noResponse
  | _ => afterResult s noResponse

/-- The state after a transaction has ended NO-RESPONSE, BAD-RESPONSE or LINE-FAULT: a relayed one fills
its reserved place with a supervisor REFUSE of that reason (R129, R165), whose KIND has bits 6 to 4 at 0 by
the model's choice (log 29). -/
def endedUnanswered (s : State) (q : Transaction) (reason : Byte) (noResponse : Nat) : State :=
  match q.origin with
  | .relayed _ => afterResult
      { s with trunkOut := s.trunkOut.answering (refusalOf q.request reason) } noResponse
  | _ => endedInside s q noResponse

/-- The state after the branch receiver has discarded what it was receiving (R162): a transaction in
RECEIVING ends BAD-RESPONSE, any other stands. -/
def answerSpoilt (s : State) : State :=
  match s.txn with
  | .outstanding .receiving q => endedUnanswered s q 0xE2#8 0
  | _ => s

/-- The sample of a port at a level. -/
def sampleAt (l : Level) (p : PortId) : Instr :=
  match l with
  | .mark => .sampleAtMark p
  | .space => .sampleAtSpace p

/-- A port after a sample, but for what the sample leads to: its rest at space (R149). -/
def heardLevel (x : Port) (l : Level) : Port :=
  { x with spaceRun := match l with | .mark => 0 | .space => min 176 (x.spaceRun + 1) }

/-- The level that two or three of three samples have (R122, R143). -/
def twoOfThree (a b c : Level) : Level := if a = b ∨ a = c then a else b

/-- R162, R165 to R167: the response timer's expiry ends the transaction NO-RESPONSE, whose count it raises;
a relayed one fills its reserved place with a supervisor REFUSE of that reason (R129); an own READ sends
nothing. R99, R100, R166: an own SET counts a miss on its record, delays it by 2 s, and at the third miss
sets LOST and the actuator LOST flag; the need stays. An own SET whose record has been removed changes none.
The expiry is taken at the sender's word, and the retry time has no upper bound (logs 5, 26). Bits 6 to 4 of
a supervisor REFUSE's KIND are the model's choice (log 29). -/
def Obligations.ResponseTimeoutEndsTheTransaction : Prop :=
  ∀ (s : State) (q : Transaction), s.txn = .outstanding .awaiting q →
    exec .responseTimeout s = .next (endedUnanswered s q 0xE1#8 (min 3 (s.noResponse + 1)))

/-- R161, R146: the mark after a resync break moves BREAK to SENDING; the request's completion moves SENDING
to AWAITING and releases the branch driver; the turnaround ends in IDLE, and every branch sample counts for
it: the 176th ends it (shown for a sample on a line that rests). BREAK_END and TURNAROUND_END are taken at
the sender's word, and the place 704 of BREAK_END is the model's (logs 17, 20). -/
def Obligations.TransactionStatesAdvance : Prop :=
  (∀ (s : State) (q : Transaction) (x : Transmission), s.branch.tx = some x →
    (s.txn = .outstanding .brk q →
      exec .breakEnd s = .next { s with
        branch := { s.branch with tx := some { x with elapsed := 704 } },
        txn := .outstanding .sending q }) ∧
    (s.txn = .outstanding .sending q →
      exec .branchTransmissionComplete s = .next { s with
        branch := portReleased s.branch, txn := .outstanding .awaiting q })) ∧
  (∀ (s : State) (n : Nat), s.txn = .turnaround n →
    exec .turnaroundEnd s = .next { s with txn := .idle } ∧
    (∀ c : Instr, s.branch.tx = none → s.branch.sampler = none → s.branch.gapTimer = none →
      s.staged.replyLeft = false → c = .sampleAtSpace .branch ∨ c = .sampleAtMark .branch →
      ∃ t, exec c s = .next t ∧ t.txn = (if n < 175 then .turnaround (n + 1) else .idle)))

/-- R145, R165 to R167, R99, R100: a mismatch on the branch stops the transmission, counts LINE-FAULT and
ends the transaction with that result: a relayed one is refused LINE-FAULT (R129), an own SET counts a miss
on its record, an own READ leaves nothing. R143: a sample that completes the three middle ones of a bit
time, whose majority is another level than the one sent, is that mismatch. The command takes the mismatch at
the sender's word, and the retry time has no upper bound (logs 17, 26). Bits 6 to 4 of a supervisor REFUSE's
KIND are the model's choice (log 29). -/
def Obligations.BranchLineFaultEndsTransaction : Prop :=
  ∀ (s : State) (x : Transmission) (phase : TxnPhase) (q : Transaction),
    s.branch.tx = some x → s.txn = .outstanding phase q →
    exec .branchLineFault s = .next (endedUnanswered { s with branch :=
      { portReleased s.branch with counters :=
        { s.branch.counters with lineFault := bump s.branch.counters.lineFault } } } q 0xE3#8 0) ∧
    (∀ l : Level, x.elapsed % 16 = 9 → twoOfThree x.eighth x.ninth l ≠ x.levelSent (x.elapsed / 16) →
      exec (sampleAt l .branch) s = exec .branchLineFault { s with branch := heardLevel s.branch l })

/-! ### Lines and telegrams (chapters 7 and 8) -/

/-- The level that bit time `b` of a character carries (R121): start bit, eight data bits, least
significant first, mark bit, stop bit. -/
def characterLevel (d : Byte) (markBit : Bool) (b : Nat) : Level :=
  if b = 0 then .space
  else if b ≤ 8 then (if d.getLsbD (b - 1) then .mark else .space)
  else if b = 9 then (if markBit then .mark else .space)
  else .mark

/-- A transmit pin carries a level: high for mark under normal polarity, exchanged under inverted (R138). -/
def pinCarries (settings : PortSettings) (l : Level) (high : Bool) : Prop :=
  high = true ↔ (l = .mark ↔ settings.polarity = .normal)

/-- R124, R131: the check of "123456789" is 0x29B1; the bytes the transmitter sends for a telegram are 6 +
LEN, pass the receiver's check, and are read back by the receiver as that telegram. R121, R141, R142: a
transmission sends eleven bit times of mark, with a resync break then 22 of space and 11 of mark, and then
its characters one after the other: start bit, data bits least significant first, a mark bit set in the
first alone, stop bit. R138, R141: TK_DE is asserted exactly while the trunk sends space, BR_DE throughout a
branch transmission; polarity acts between the pins and the levels. That a transmit pin rests at mark while
its port sends nothing is the model's choice (log 27). -/
def Obligations.TelegramsSentAreReadBack : Prop :=
  crc16 [0x31#8, 0x32#8, 0x33#8, 0x34#8, 0x35#8, 0x36#8, 0x37#8, 0x38#8, 0x39#8] = 0x29B1#16 ∧
  (∀ (t : Telegram), t.payload.length ≤ 48 →
    t.bytes.length = 6 + t.payload.length ∧
    (t.bytes.getD 3 0).toNat = t.payload.length ∧
    checkPasses t.bytes = true ∧
    assembledTelegram t.bytes = t) ∧
  (∀ x : Transmission,
    (∀ b, b < 11 → x.levelSent b = .mark) ∧
    (x.withBreak = true →
      (∀ b, 11 ≤ b → b < 33 → x.levelSent b = .space) ∧
      (∀ b, 33 ≤ b → b < 44 → x.levelSent b = .mark)) ∧
    (∀ (k : Nat) (d : Byte) (b : Nat), x.bytes[k]? = some d → b < 11 →
      x.levelSent ((if x.withBreak then 44 else 11) + 11 * k + b) =
        characterLevel d (decide (k = 0)) b)) ∧
  (∀ (s : State) (x : Transmission),
    (s.trunk.tx = some x →
      (s.tkDe = true ↔ x.levelSent (x.elapsed / 16) = .space) ∧
      pinCarries s.trunk.settings (x.levelSent (x.elapsed / 16)) s.tkTxd) ∧
    (s.branch.tx = some x →
      s.brDe = true ∧ pinCarries s.branch.settings (x.levelSent (x.elapsed / 16)) s.brTxd)) ∧
  (∀ s : State,
    (s.trunk.tx = none → s.tkDe = false ∧ pinCarries s.trunk.settings .mark s.tkTxd) ∧
    (s.branch.tx = none → s.brDe = false ∧ pinCarries s.branch.settings .mark s.brTxd)) ∧
  (∀ (polarity : Polarity) (high : Bool),
    levelOfPin polarity high = .mark ↔ (high = true ↔ polarity = .normal))

/-- A port after its line-idle event (R140). -/
def portIdle (x : Port) : Port :=
  { x with idleCount := 176, lineIdle := true, waitMark := false, spaceRun := 0 }

/-- A port after its line-idle event with new settings (R136, R139). -/
def portResettled (x : Port) (settings : PortSettings) : Port :=
  { x with settings := settings, receiver := .hunt, waitMark := true, gapTimer := none, sampler := none,
           idleCount := 0, lineIdle := false, spaceRun := 0 }

/-- The state after a port's line-idle event (R139, R140, R162): the line idle condition held, or settings
staged for the port taken, which on the branch spoils an answer being received. -/
def lineIdleTaken (s : State) (p : PortId) : State :=
  match p, s.staged.replyLeft, s.staged.trunk, s.staged.branch with
  | .trunk, true, some q, _ => { s with
      trunk := portResettled s.trunk q, staged := { s.staged with trunk := none } }
  | .branch, true, _, some (q, ms) => answerSpoilt { s with
      branch := portResettled s.branch q, responseTimeout := ms, staged := { s.staged with branch := none } }
  | p, _, _, _ => s.setPort p (portIdle (s.port p))

/-- The state after the idle count of a port has taken a sample at mark (R140): one more below 176; at 176 the
line-idle event, once for an idle period. -/
def idleCounted (s : State) (p : PortId) : State :=
  if (s.port p).idleCount < 175 then
    s.setPort p { s.port p with idleCount := (s.port p).idleCount + 1 }
  else if (s.port p).lineIdle then s
  else lineIdleTaken s p

/-- R139, R140, R162: a line-idle event makes the line idle condition held; settings staged for the port
take effect in it once the SET-PORTS reply has left, and a transaction whose answer is then being received
ends BAD-RESPONSE, relayed or own. That it ends a wait for mark and a rest at space is the model's reading,
and it is taken at the sender's word (logs 19, 17). Bits 6 to 4 of a supervisor REFUSE's KIND are the
model's choice (log 29). -/
def Obligations.LineIdleEventHoldsAndApplies : Prop :=
  ∀ (s : State) (p : PortId), (s.port p).tx = none → (s.port p).lineIdle = false →
    (s.staged.replyLeft = false ∨ (p = .trunk ∧ s.staged.trunk = none) ∨
        (p = .branch ∧ s.staged.branch = none) →
      exec (.lineIdleEvent p) s = .next (s.setPort p (portIdle (s.port p)))) ∧
    (∀ q, s.staged.replyLeft = true → p = .trunk → s.staged.trunk = some q →
      exec (.lineIdleEvent p) s = .next { s with
        trunk := portResettled s.trunk q, staged := { s.staged with trunk := none } }) ∧
    (∀ q ms, s.staged.replyLeft = true → p = .branch → s.staged.branch = some (q, ms) →
      exec (.lineIdleEvent p) s = .next (answerSpoilt { s with
        branch := portResettled s.branch q, responseTimeout := ms,
        staged := { s.staged with branch := none } })) ∧
    exec (.lineIdleEvent p) s = .next (lineIdleTaken s p)

/-- R122, R123, R134, R140: on a line that the port does not drive and on which no character is being
sampled, a first sample at space ends the line idle condition, stops the gap timer and begins a start bit (a
receiver waiting for mark begins none). A sample at mark ends the wait for mark and counts up; the 176th is
the line-idle event, and while the condition is held already nothing more follows. With the gap timer
running it also takes one sample from it, and the sample that leaves none is the timer's expiry. That the
sampler keeps what the gap timer had left is the model's own (log 10), and so is the order of the expiry and
the line-idle event that one sample completes, the expiry first (log 31). Bits 6 to 4 of a supervisor
REFUSE's KIND are the model's choice (log 29). -/
def Obligations.SamplesOnAQuietLine : Prop :=
  ∀ (s : State) (p : PortId), (s.port p).tx = none → (s.port p).sampler = none →
    (p = .branch → ∀ n, s.txn ≠ .turnaround n) →
    ((s.port p).waitMark = false →
      exec (.sampleAtSpace p) s = .next (s.setPort p { s.port p with
        idleCount := 0, lineIdle := false, gapTimer := none,
        sampler := some { index := 1, eighth := .mark, ninth := .mark, bits := [], noise := false,
                          gapLeft := (s.port p).gapTimer },
        spaceRun := min 176 ((s.port p).spaceRun + 1) })) ∧
    ((s.port p).waitMark = true →
      exec (.sampleAtSpace p) s = .next (s.setPort p { s.port p with
        idleCount := 0, lineIdle := false, spaceRun := min 176 ((s.port p).spaceRun + 1) })) ∧
    ((s.port p).gapTimer = none → (s.port p).idleCount < 175 →
      exec (.sampleAtMark p) s = .next (s.setPort p { s.port p with
        idleCount := (s.port p).idleCount + 1, waitMark := false, spaceRun := 0 })) ∧
    ((s.port p).gapTimer = none → 175 ≤ (s.port p).idleCount → (s.port p).lineIdle = false →
      exec (.sampleAtMark p) s = exec (.lineIdleEvent p) s) ∧
    ((s.port p).gapTimer = none → 175 ≤ (s.port p).idleCount → (s.port p).lineIdle = true →
      exec (.sampleAtMark p) s = .next (s.setPort p { s.port p with waitMark := false, spaceRun := 0 })) ∧
    (∀ n, (s.port p).gapTimer = some n → 1 < n →
      exec (.sampleAtMark p) s = .next (idleCounted (s.setPort p { s.port p with
        gapTimer := some (n - 1), waitMark := false, spaceRun := 0 }) p)) ∧
    (∀ n, (s.port p).gapTimer = some n → n ≤ 1 → ∃ u,
      exec (.gapTimerExpiry p) (s.setPort p { s.port p with waitMark := false, spaceRun := 0 }) = .next u ∧
      exec (.sampleAtMark p) s = .next (idleCounted u p))

/-- The transmission that begins with some bytes (R141). -/
def transmissionOf (bytes : List Byte) (withBreak : Bool) (owner : TxOwner) : Transmission :=
  { bytes := bytes, withBreak := withBreak, elapsed := 0, eighth := .mark, ninth := .mark, owner := owner }

/-- Every mark of the notice pending state changed alike. -/
def noticeMarks (n : Notice) (f : Mark → Mark) : Notice :=
  { coils := n.coils.map f, urgent := f n.urgent, contactChange := f n.contactChange,
    plantTripEvent := f n.plantTripEvent, actuatorLost := f n.actuatorLost,
    portRestart := f n.portRestart, fallbackChange := f n.fallbackChange,
    moderationTicks := n.moderationTicks }

/-- Something that a NOTICE reports is pending (R180). -/
def somethingPending (n : Notice) : Prop :=
  (∃ m ∈ n.coils, m ≠ .clear) ∨ n.contactChange ≠ .clear ∨ n.plantTripEvent ≠ .clear ∨
  n.actuatorLost ≠ .clear ∨ n.portRestart ≠ .clear ∨ n.fallbackChange ≠ .clear

/-- R141, R154: on an idle line the trunk transmitter begins the first filled telegram, which stays first.
R180 to R182: with no place filled, something pending, notices on and the moderation passed or waived, it
begins a NOTICE built in that event, which carries what is pending: the plant clock, the flags, and the
coils in the pending set with state and cause. That it happens at its command is the model's choice (log
18). -/
def Obligations.TrunkTransmissionBegins : Prop :=
  ∀ (s : State), s.trunk.lineIdle = true → s.trunk.tx = none →
    (∀ first rest, s.trunkOut.filled = first :: rest →
      exec .trunkTransmissionBegin s = .next { s with trunk :=
        { portReleased s.trunk with tx := some (transmissionOf first.telegram.bytes false .listHead) } }) ∧
    (s.notice.coils.length = 16 → s.trunkOut.filled = [] → somethingPending s.notice →
      s.globals.noticesOn = true →
      8 * s.globals.moderation ≤ s.notice.moderationTicks ∨ s.notice.urgent ≠ .clear →
      ∃ n : Telegram,
        exec .trunkTransmissionBegin s = .next { s with
          notice := noticeMarks s.notice (fun m => if m = .set then .carried else m),
          trunk := { portReleased s.trunk with tx := some (transmissionOf n.bytes false .notice) } } ∧
        n.dest = 240 ∧ n.src = s.ownAddress ∧ n.kind = 0x08#8 ∧
        n.payload.length = 5 + 2 * (s.notice.coils.filter (fun m => m != .clear)).length ∧
        n.payload.take 4 = be32 s.plantClock ∧
        (n.payload.getD 4 0).toNat = bitIf s.fallback 1 + bitIf (s.contacts.recognition != .clear) 2 +
          bitIf (s.notice.actuatorLost != .clear) 4 + bitIf (s.notice.portRestart != .clear) 8 +
          bitIf (s.notice.contactChange != .clear) 16 + bitIf (s.notice.plantTripEvent != .clear) 32 +
          bitIf (s.notice.fallbackChange != .clear) 64 ∧
        n.payload.drop 5 = ((List.finRange 16).filter (fun c =>
            (s.notice.coils.getD c.val .clear) != .clear)).flatMap (fun c =>
          [BitVec.ofNat 8 (16 * c.val + (s.coil c).state.code), BitVec.ofNat 8 (causeCode (s.coil c).cause)]))

/-- R146, R154, R176, R139, R182: an intact trunk telegram frees the first place; with the SET-PORTS reply
the staged global settings come into force and the port settings wait for each port's line-idle event. An
intact NOTICE clears what it still carries and starts the moderation time from 0. -/
def Obligations.TrunkTelegramOrNoticeLeaves : Prop :=
  ∀ (s : State) (x : Transmission), s.trunk.tx = some x →
    (∀ first rest, x.owner = .listHead → s.trunkOut.filled = first :: rest → first.role = .plain →
      exec .trunkTransmissionComplete s = .next { s with
        trunk := portReleased s.trunk, trunkOut := { s.trunkOut with filled := rest } }) ∧
    (∀ first rest, x.owner = .listHead → s.trunkOut.filled = first :: rest → first.role = .setPorts →
      exec .trunkTransmissionComplete s = .next { s with
        trunk := portReleased s.trunk, trunkOut := { s.trunkOut with filled := rest },
        globals := s.staged.globals.getD s.globals,
        staged := { s.staged with globals := none, replyLeft := true } }) ∧
    (x.owner = .notice →
      exec .trunkTransmissionComplete s = .next { s with
        trunk := portReleased s.trunk,
        notice := { noticeMarks s.notice (fun m => if m = .carried then .clear else m) with
          moderationTicks := 0 } })

/-- R144, R182: a collision stops the transmission and is counted; the telegram stays first; a NOTICE is
discarded, its content staying pending without carried marks. R143: a sample by which a bit time is read
back at another level than the one sent, by the majority of its eighth, ninth and tenth samples, is the
collision. R141, R143, R146, R161: any other sample moves the transmission of either port on by one, keeping
the eighth and ninth of the bit time; the one that ends the last stop bit is the completion, and the last of
the mark after a resync break is the break's end. A command for a collision is taken at the sender's word
(log 17). -/
def Obligations.CollisionKeepsTelegramAndNotice : Prop :=
  (∀ (s : State) (x : Transmission), s.trunk.tx = some x →
    (x.owner = .listHead →
      exec .collision s = .next { s with
        trunk := { portReleased s.trunk with counters :=
          { s.trunk.counters with collision := bump s.trunk.counters.collision } } }) ∧
    (x.owner = .notice →
      exec .collision s = .next { s with
        trunk := { portReleased s.trunk with counters :=
          { s.trunk.counters with collision := bump s.trunk.counters.collision } },
        notice := noticeMarks s.notice (fun m => if m = .carried then .set else m) }) ∧
    (∀ l : Level, x.elapsed % 16 = 9 → twoOfThree x.eighth x.ninth l ≠ x.levelSent (x.elapsed / 16) →
      exec (sampleAt l .trunk) s = exec .collision { s with trunk := heardLevel s.trunk l })) ∧
  (∀ (s : State) (p : PortId) (x : Transmission) (l : Level), (s.port p).tx = some x →
    (p = .branch → ∀ n, s.txn ≠ .turnaround n) →
    (x.elapsed % 16 = 9 → twoOfThree x.eighth x.ninth l = x.levelSent (x.elapsed / 16)) →
    let heard := s.setPort p (heardLevel (s.port p) l)
    let length := 16 * ((if x.withBreak then 44 else 11) + 11 * x.bytes.length)
    (x.elapsed + 1 ≠ length → ¬ (p = .branch ∧ x.withBreak = true ∧ x.elapsed + 1 = 704) →
      exec (sampleAt l p) s = .next (s.setPort p { heardLevel (s.port p) l with
        tx := some { x with
          elapsed := x.elapsed + 1,
          eighth := if x.elapsed % 16 = 7 then l else x.eighth,
          ninth := if x.elapsed % 16 = 8 then l else x.ninth } })) ∧
    (x.elapsed + 1 = length → p = .trunk →
      exec (sampleAt l p) s = exec .trunkTransmissionComplete heard) ∧
    (∀ q, x.elapsed + 1 = length → p = .branch → s.txn = .outstanding .sending q →
      exec (sampleAt l p) s = exec .branchTransmissionComplete heard) ∧
    (∀ q, x.elapsed + 1 = 704 → 704 ≠ length → x.withBreak = true → p = .branch →
      s.txn = .outstanding .brk q →
      exec (sampleAt l p) s = exec .breakEnd heard))

/-- A port after a character has ended, a NOISE one counted (R122, R140). -/
def portHeard (x : Port) (noise : Bool) : Port :=
  { x with sampler := none, idleCount := if x.lineIdle then 0 else x.idleCount, lineIdle := false,
           counters := if noise then { x.counters with noise := bump x.counters.noise } else x.counters }

/-- R132, R122, R150, R162: a listening receiver in HUNT begins an assembly with a character whose mark bit
is set, on the branch moving AWAITING to RECEIVING; it ignores one whose mark bit is clear; a character
whose stop bit is at space is counted BREAK when all its bits are 0 and else FRAMING, and the receiver waits
for mark. NOISE is counted. That the character ends the line idle condition and the 358 samples of the gap
timer are the model's readings (logs 19, 10). -/
def Obligations.HuntTakesCharacters : Prop :=
  ∀ (s : State) (p : PortId) (ch : LineChar), (s.port p).tx = none → (s.port p).waitMark = false →
    (s.port p).receiver = .hunt →
    (ch.stopMark = true → ch.markBit = true →
      (p = .trunk ∨ ∀ q, s.txn ≠ .outstanding .awaiting q) →
      exec (.characterReceived p ch) s = .next (s.setPort p { portHeard (s.port p) ch.noise with
        receiver := .assemble [ch.data], gapTimer := some 358 })) ∧
    (∀ q, ch.stopMark = true → ch.markBit = true → p = .branch → s.txn = .outstanding .awaiting q →
      exec (.characterReceived p ch) s = .next { s with
        branch := { portHeard s.branch ch.noise with receiver := .assemble [ch.data], gapTimer := some 358 },
        txn := .outstanding .receiving q }) ∧
    (ch.stopMark = true → ch.markBit = false →
      exec (.characterReceived p ch) s = .next (s.setPort p (portHeard (s.port p) ch.noise))) ∧
    (ch.stopMark = false →
      exec (.characterReceived p ch) s = .next (s.setPort p
        { portHeard (s.port p) ch.noise with
          gapTimer := none, waitMark := true,
          counters :=
            let k := (portHeard (s.port p) ch.noise).counters
            if ch.data = 0 ∧ ch.markBit = false then { k with breaks := bump k.breaks }
            else { k with framing := bump k.framing } }))

/-- The state after a telegram error, with the port as it then stands (R147 to R149): one more in the run,
or at the eighth the port restart. -/
def portAfterError (s : State) (p : PortId) (x : Port) : State :=
  if x.errorRun < 7 then s.setPort p { x with errorRun := x.errorRun + 1 }
  else { s.setPort p { x with
      receiver := .hunt, waitMark := true, gapTimer := none, sampler := none, errorRun := 0,
      polaritySuspect := x.polaritySuspect || decide (x.spaceRun = 176),
      counters := { x.counters with restart := bump x.counters.restart } } with
    notice := { s.notice with portRestart := .set } }

/-- The state after a discard in ASSEMBLE (R133, R162), with the port as it then stands: on the branch a
transaction in RECEIVING ends BAD-RESPONSE, and the discard is one telegram error. -/
def discarded (s : State) (p : PortId) (x : Port) : State :=
  match p with
  | .trunk => portAfterError s .trunk x
  | .branch => portAfterError (answerSpoilt s) .branch x

/-- The LEN that R127's table allows a kind code. -/
def lenInTable (code len : Nat) : Prop :=
  match code with
  | 1 => 1 ≤ len ∧ len ≤ 8
  | 2 => 4 ≤ len ∧ len ≤ 32 ∧ len % 4 = 0
  | 3 => 3 ≤ len ∧ len ≤ 24 ∧ len % 3 = 0
  | 4 => 3 ≤ len ∧ len ≤ 24 ∧ len % 3 = 0
  | 5 => len = 1 ∨ len = 2
  | 6 => 1 ≤ len ∧ len ≤ 48
  | 7 => 2 ≤ len ∧ len ≤ 48
  | 8 => 5 ≤ len ∧ len ≤ 37 ∧ (len - 5) % 2 = 0
  | _ => len ≤ 48

/-- A DEST that R126's table assigns: a field station, a supervisor or the plant controller. -/
def assigned (a : Byte) : Prop :=
  (1 ≤ a.toNat ∧ a.toNat ≤ 199) ∨ (200 ≤ a.toNat ∧ a.toNat ≤ 231) ∨ a.toNat = 240

/-- The signed 16-bit number of two bytes, the high one first (R128). -/
def signedOf (high low : Byte) : Int := (high ++ low).toInt

/-- The items of a REPORT, four bytes each (R128): channel, status, value high, value low. -/
def reportedItems (payload : List Byte) : List (Byte × Byte × Int) :=
  (List.range (payload.length / 4)).map (fun i =>
    (payload.getD (4 * i) 0, payload.getD (4 * i + 1) 0,
      signedOf (payload.getD (4 * i + 2) 0) (payload.getD (4 * i + 3) 0)))

/-- The items of a SET or APPLIED, three bytes each (R128): channel, value high, value low. -/
def valueItems (payload : List Byte) : List (Byte × Int) :=
  (List.range (payload.length / 3)).map (fun i =>
    (payload.getD (3 * i) 0, signedOf (payload.getD (3 * i + 1) 0) (payload.getD (3 * i + 2) 0)))

/-- The payload of a SET that has some items (R128). -/
def valueBytes (items : List (Byte × Int)) : List Byte :=
  items.flatMap (fun q =>
    [q.1, (BitVec.ofInt 16 q.2).extractLsb' 8 8, (BitVec.ofInt 16 q.2).extractLsb' 0 8])

/-- R127, R133, R147 to R149: the receiver of either port in ASSEMBLE takes a character with the mark bit
clear into its assembly and starts the gap timer anew; a LEN that the kind does not allow discards the
assembly with a LENGTH error, a character with the mark bit set does so and begins a new assembly, and a
character error, BREAK or FRAMING (R123), discards it and the receiver waits for mark. Each is one telegram
error, at the eighth in a row the port restarts; on the branch it ends a transaction in RECEIVING with
BAD-RESPONSE, relayed or own (R162, R165, R166). That the character ends the line idle condition and the 358
samples of the gap timer are the model's readings (logs 19, 10). Bits 6 to 4 of a supervisor REFUSE's KIND
are the model's choice (log 29). -/
def Obligations.AssembleTakesCharacters : Prop :=
  ∀ (s : State) (p : PortId) (ch : LineChar) (bytes : List Byte), (s.port p).tx = none →
    (s.port p).waitMark = false → (s.port p).receiver = .assemble bytes →
    let heard := portHeard (s.port p) ch.noise
    (ch.stopMark = true → ch.markBit = false → (bytes ++ [ch.data]).length ≠ 4 →
      (bytes ++ [ch.data]).length ≠ 6 + ((bytes ++ [ch.data]).getD 3 0).toNat →
      exec (.characterReceived p ch) s = .next (s.setPort p
        { heard with receiver := .assemble (bytes ++ [ch.data]), gapTimer := some 358 })) ∧
    (ch.stopMark = true → ch.markBit = false → bytes.length = 3 →
      lenInTable ((bytes.getD 2 0).toNat % 16) ch.data.toNat →
      exec (.characterReceived p ch) s = .next (s.setPort p
        { heard with receiver := .assemble (bytes ++ [ch.data]), gapTimer := some 358 })) ∧
    (ch.stopMark = true → ch.markBit = false → bytes.length = 3 →
      ¬ lenInTable ((bytes.getD 2 0).toNat % 16) ch.data.toNat →
      exec (.characterReceived p ch) s = .next (discarded s p
        { heard with receiver := .hunt, gapTimer := none,
                     counters := { heard.counters with length := bump heard.counters.length } })) ∧
    (ch.stopMark = true → ch.markBit = true →
      exec (.characterReceived p ch) s = .next (discarded s p
        { heard with receiver := .assemble [ch.data], gapTimer := some 358,
                     counters := { heard.counters with length := bump heard.counters.length } })) ∧
    (ch.stopMark = false →
      exec (.characterReceived p ch) s = .next (discarded s p
        { heard with
          receiver := .hunt, gapTimer := none, waitMark := true,
          counters :=
            if ch.data = 0 ∧ ch.markBit = false
            then { heard.counters with breaks := bump heard.counters.breaks }
            else { heard.counters with framing := bump heard.counters.framing } }))

/-- R134, R147 to R149, R162, R165, R166: on either port the gap timer's expiry discards the partial
telegram with a GAP error, which at the eighth telegram error in a row restarts the port; on the branch it
ends a transaction in RECEIVING with BAD-RESPONSE, relayed or own, and leaves any other as it is. A running
timer's expiry is taken at the sender's word (log 17). Bits 6 to 4 of a supervisor REFUSE's KIND are the
model's choice (log 29). -/
def Obligations.GapExpiryDiscards : Prop :=
  ∀ (s : State) (p : PortId) (n : Nat), (s.port p).gapTimer = some n →
    exec (.gapTimerExpiry p) s = .next (discarded s p
      { s.port p with
        receiver := .hunt, gapTimer := none,
        counters := { (s.port p).counters with gap := bump (s.port p).counters.gap } })

/-- A character completes the telegram in assembly (R133, R135). -/
def completes (x : Port) (bytes : List Byte) (last : Byte) : Prop :=
  x.tx = none ∧ x.waitMark = false ∧ x.receiver = .assemble bytes ∧ 4 ≤ bytes.length ∧
  (bytes ++ [last]).length = 6 + (bytes.getD 3 0).toNat

/-- A port after a good telegram (R135, R147). -/
def portGood (x : Port) (noise : Bool) : Port :=
  { portHeard x noise with receiver := .hunt, gapTimer := none, errorRun := 0 }

/-- The addresses of a telegram are those of an answer to a request (R163). -/
def answers (q : Transaction) (t : Telegram) : Prop := t.src = q.request.dest ∧ t.dest = q.request.src

/-- R126, R131, R135, R162: on either port a completed telegram whose check fails is counted CRC and is a
telegram error; one whose DEST is not assigned is counted ADDRESS and is none, whatever its kind; on the
branch both end a transaction in RECEIVING with BAD-RESPONSE. R163 to R166: of the good telegrams on the
branch that are neither REPORT nor APPLIED, a REFUSE that answers the outstanding request ends it REFUSED,
forwarded as received for a relayed request and a miss for an own SET; any other ends a transaction in
RECEIVING with BAD-RESPONSE, and without one nothing follows. That the character ends the line idle
condition, and that ADDRESS discards a REPORT or APPLIED unread, are the model's readings (logs 19, 25).
Bits 6 to 4 of a supervisor REFUSE's KIND are the model's choice (log 29). -/
def Obligations.CompletionTestsCheckThenAddress : Prop :=
  (∀ (s : State) (p : PortId) (bytes : List Byte) (last : Byte) (noise : Bool),
    completes (s.port p) bytes last →
    let heard := { portHeard (s.port p) noise with receiver := .hunt, gapTimer := none }
    let addressed := s.setPort p
      { heard with counters := { heard.counters with address := bump heard.counters.address } }
    (checkPasses (bytes ++ [last]) = false →
      exec (.telegramComplete p last noise) s = .next (discarded s p
        { heard with counters := { heard.counters with crc := bump heard.counters.crc } })) ∧
    (checkPasses (bytes ++ [last]) = true → ¬ assigned ((bytes ++ [last]).getD 0 0) →
      exec (.telegramComplete p last noise) s =
        .next (match p with | .trunk => addressed | .branch => answerSpoilt addressed))) ∧
  (∀ (s : State) (bytes : List Byte) (last : Byte) (noise : Bool) (t : Telegram),
    completes s.branch bytes last → checkPasses (bytes ++ [last]) = true →
    t = assembledTelegram (bytes ++ [last]) → assigned t.dest → t.code ≠ 2 → t.code ≠ 4 →
    let good : State := { s with branch := portGood s.branch noise }
    (∀ q, s.txn = .outstanding .receiving q → answers q t → t.code = 5 →
      q.request.code = 1 ∨ q.request.code = 3 →
      (∀ rewritten, q.origin = .relayed rewritten →
        exec (.telegramComplete .branch last noise) s =
          .next (afterResult { good with trunkOut := s.trunkOut.answering t } 0)) ∧
      ((∀ rewritten, q.origin ≠ .relayed rewritten) →
        exec (.telegramComplete .branch last noise) s = .next (endedInside good q 0))) ∧
    (∀ q, s.txn = .outstanding .receiving q → ¬ answers q t ∨ t.code ≠ 5 →
      exec (.telegramComplete .branch last noise) s = .next (endedUnanswered good q 0xE2#8 0)) ∧
    ((∀ q, s.txn ≠ .outstanding .receiving q) →
      exec (.telegramComplete .branch last noise) s = .next good))

/-- R152, R155, R156: a READ or SET on the trunk for a station of the relay set joins the queue's tail with
a reserved place; without queue room or a place to reserve it is refused BUSY in a free place, or dropped
and counted TRUNK-FULL. A telegram that is neither such nor an ADMIN to the own address is ignored. That the
character ends the line idle condition is the model's reading (log 19). Bits 6 to 4 of a supervisor REFUSE's
KIND are the model's choice (log 29). -/
def Obligations.TrunkRequestsAreRelayedOrRefused : Prop :=
  ∀ (s : State) (bytes : List Byte) (last : Byte) (noise : Bool) (t : Telegram),
    completes s.trunk bytes last → checkPasses (bytes ++ [last]) = true →
    t = assembledTelegram (bytes ++ [last]) → assigned t.dest →
    ((t.code = 1 ∨ t.code = 3) → t.dest.toNat ∈ s.relaySet →
      (s.relayQueue.length < 7 → s.trunkOut.reserved < 7 →
        s.trunkOut.reserved + s.trunkOut.filled.length < 10 →
        exec (.telegramComplete .trunk last noise) s = .next { s with
          trunk := portGood s.trunk noise, relayQueue := s.relayQueue ++ [t],
          trunkOut := { s.trunkOut with reserved := s.trunkOut.reserved + 1 } }) ∧
      (7 ≤ s.relayQueue.length ∨ 7 ≤ s.trunkOut.reserved →
        s.trunkOut.reserved + s.trunkOut.filled.length < 10 →
        exec (.telegramComplete .trunk last noise) s = .next { s with
          trunk := portGood s.trunk noise, trunkOut := s.trunkOut.adding (refusalOf t 0xE4#8) }) ∧
      (10 ≤ s.trunkOut.reserved + s.trunkOut.filled.length →
        exec (.telegramComplete .trunk last noise) s = .next { s with
          trunk := { portGood s.trunk noise with counters :=
            let k := (portGood s.trunk noise).counters
            { k with trunkFull := bump k.trunkFull } } })) ∧
    ((t.code ≠ 1 ∧ t.code ≠ 3 ∨ t.dest.toNat ∉ s.relaySet) → (t.code ≠ 6 ∨ t.dest ≠ s.ownAddress) →
      exec (.telegramComplete .trunk last noise) s = .next { s with trunk := portGood s.trunk noise })

/-- R157, R179: an ADMIN on the trunk to the own address is taken as the management request of its first
payload byte, for each of the seventeen codes 0x01 to 0x11, with its SRC and the rest of its payload; the
receiver ends in HUNT. R156, R171: any other code is answered UNKNOWN when a place can be reserved, BUSY in
a free place when not, and dropped and counted TRUNK-FULL with none free. The command rows are read as the
requests of such telegrams, and the character ends the line idle condition (logs 21, 19). -/
def Obligations.AdminTelegramIsTheRequest : Prop :=
  ∀ (s : State) (bytes : List Byte) (last : Byte) (noise : Bool) (t : Telegram) (code : Byte)
    (args : List Byte),
    completes s.trunk bytes last → checkPasses (bytes ++ [last]) = true →
    t = assembledTelegram (bytes ++ [last]) → t.code = 6 → t.dest = s.ownAddress →
    t.payload = code :: args →
    let good : State := { s with trunk := portGood s.trunk noise }
    (∀ i : Instr, adminRequest i = some (t.src, code) → adminArgs i = some args →
      exec (.telegramComplete .trunk last noise) s = exec i good) ∧
    (1 ≤ code.toNat → code.toNat ≤ 17 →
      ∃ i : Instr, adminRequest i = some (t.src, code) ∧ adminArgs i = some args) ∧
    (code.toNat = 0 ∨ 17 < code.toNat →
      (s.trunkOut.canReserve = true →
        exec (.telegramComplete .trunk last noise) s = .next (good.replied t.src code 0x1A#8 [])) ∧
      (7 ≤ s.trunkOut.reserved → s.trunkOut.reserved + s.trunkOut.filled.length < 10 →
        exec (.telegramComplete .trunk last noise) s = .next (good.replied t.src code 0x19#8 [])) ∧
      (10 ≤ s.trunkOut.reserved + s.trunkOut.filled.length →
        exec (.telegramComplete .trunk last noise) s = .next { good with trunk :=
          { good.trunk with counters :=
            { good.trunk.counters with trunkFull := bump good.trunk.counters.trunkFull } } }))

/-- R23, R24, R135, R163 to R166: every good REPORT on the branch is taken by sample intake, item by item,
whether it answers a transaction, is judged BAD-RESPONSE or comes when none is waiting. One that answers a
relayed READ then fills the reserved place as received; one that answers an own READ ends it; any other ends
a transaction in RECEIVING with BAD-RESPONSE. That the character ends the line idle condition, and that a
REPORT with an unassigned DEST is none of these, are the model's readings (logs 19, 25). Bits 6 to 4 of a
supervisor REFUSE's KIND are the model's choice (log 29). -/
def Obligations.ReportIsTakenAndForwarded : Prop :=
  ∀ (s : State) (bytes : List Byte) (last : Byte) (noise : Bool) (t : Telegram),
    completes s.branch bytes last → checkPasses (bytes ++ [last]) = true →
    t = assembledTelegram (bytes ++ [last]) → assigned t.dest → t.code = 2 →
    let taken : State := { s with
      branch := portGood s.branch noise,
      points := (reportedItems t.payload).foldl (fun points item => points.map (Option.map (fun e =>
        if e.cfg.station = t.src.toNat ∧ e.cfg.channel = item.1.toNat
        then e.takeItem s.plantClock item.2.1 item.2.2 else e))) s.points }
    (∀ q, s.txn = .outstanding .receiving q → q.request.code = 1 → answers q t →
      (∀ rewritten, q.origin = .relayed rewritten →
        exec (.telegramComplete .branch last noise) s =
          .next (afterResult { taken with trunkOut := s.trunkOut.answering t } 0)) ∧
      (q.origin = .ownRead →
        exec (.telegramComplete .branch last noise) s = .next (afterResult taken 0))) ∧
    (∀ q, s.txn = .outstanding .receiving q → q.request.code ≠ 1 ∨ ¬ answers q t →
      exec (.telegramComplete .branch last noise) s = .next (endedUnanswered taken q 0xE2#8 0)) ∧
    ((∀ q, s.txn ≠ .outstanding .receiving q) →
      exec (.telegramComplete .branch last noise) s = .next taken)

/-- R91, R94, R135, R163 to R166: every good APPLIED on the branch acts on the actuator records, item by
item, whether it answers a transaction, is judged BAD-RESPONSE or comes when none is waiting. One that
answers a relayed SET then fills the reserved place, with ALTERED set when the SET was rewritten; one that
answers an own SET ends it; any other ends a transaction in RECEIVING with BAD-RESPONSE. That the character
ends the line idle condition, and that an APPLIED with an unassigned DEST is none of these, are the model's
readings (logs 19, 25). Bits 6 to 4 of a supervisor REFUSE's KIND are the model's choice (log 29). -/
def Obligations.AppliedIsTakenAndForwarded : Prop :=
  ∀ (s : State) (bytes : List Byte) (last : Byte) (noise : Bool) (t : Telegram),
    completes s.branch bytes last → checkPasses (bytes ++ [last]) = true →
    t = assembledTelegram (bytes ++ [last]) → assigned t.dest → t.code = 4 →
    let taken : State := { s with
      branch := portGood s.branch noise,
      records := (valueItems t.payload).foldl (fun records item => records.map (Option.map (fun r =>
        if r.station = t.src.toNat ∧ r.channel = item.1.toNat
        then r.takeEcho s.plantClock item.2 else r))) s.records }
    (∀ q, s.txn = .outstanding .receiving q → q.request.code = 3 → answers q t →
      (∀ rewritten, q.origin = .relayed rewritten →
        exec (.telegramComplete .branch last noise) s = .next (afterResult { taken with
          trunkOut := s.trunkOut.answering
            (if rewritten then { t with kind := t.kind ||| 0x80#8 } else t) } 0)) ∧
      (∀ station channel live, q.origin = .ownSet station channel live →
        exec (.telegramComplete .branch last noise) s = .next (afterResult taken 0))) ∧
    (∀ q, s.txn = .outstanding .receiving q → q.request.code ≠ 3 ∨ ¬ answers q t →
      exec (.telegramComplete .branch last noise) s = .next (endedUnanswered taken q 0xE2#8 0)) ∧
    ((∀ q, s.txn ≠ .outstanding .receiving q) →
      exec (.telegramComplete .branch last noise) s = .next taken)

/-! ### Coil protection (chapters 3 and 4) -/

/-- R40 to R50: an evaluation stores these results, from the coil's own VALID points, in every state of the
coil, and everything that the protection of coils does not own stays. A coil in TRIP that its auto-reset
takes to GUARD has D at 0 instead (R74). -/
def Obligations.EvaluationStoresItsResults : Prop :=
  ∀ (s : State) (c : CoilId), s.coils.length = 16 → (s.coil c).evalTimer = true →
    ∃ (t : State) (results : EvalRuntime), exec (.evaluation c) s = .next t ∧ sameOutsideProtection s t ∧
      (t.coil c).cfg = (s.coil c).cfg ∧
      (∀ d, d ≠ c → t.coil d = s.coil d) ∧
      EvaluatesTo s c results ∧
      (t.coil c).eval =
        (if (s.coil c).state = .trip ∧ (t.coil c).state = .guard then { results with dose := 0 } else results)

/-- M is at the hard band or deeper (R51). -/
def hardTrip (k : Coil) : Prop := ∃ m, k.eval.m = some m ∧ m ≤ -k.cfg.hardBand

/-- D has reached trip_dose (R51). -/
def doseTrip (k : Coil) : Prop := k.cfg.tripDose ≤ k.eval.dose

/-- The coil's contact reads its cold state (R66, R113). -/
def contactTrip (b : ContactBlock) (k : Coil) : Prop :=
  ∃ r, k.cfg.contact = some r ∧
    inputReads b r.input (match r.polarity with | .openCold => .opened | .closedCold => .closed)

/-- Sensing has been lost for blind_trip_time, and the OAT point is below blind_trip_oat or not there
(R66). -/
def blindTripHolds (s : State) (k : Coil) : Prop :=
  k.cfg.blindTripTime ≠ 0 ∧ k.eval.sensingLost = true ∧ k.cfg.blindTripTime ≤ k.unknown ∧
  outdoorColdOrLost s k.cfg.blindTripOat

/-- None of the four. -/
def noTrip (s : State) (k : Coil) : Prop :=
  ¬ hardTrip k ∧ ¬ doseTrip k ∧ ¬ contactTrip s.contacts k ∧ ¬ blindTripHolds s k

/-- In service and not latched (R58). -/
def unlatched (x : CoilState) : Prop := x = .startup ∨ x = .normal ∨ x = .watch ∨ x = .guard

/-- R51, R65, R66: an evaluation that finds a trip condition trips the coil, with the cause of the first
that holds: HARD, DOSE, CONTACT, BLIND; TRIP, or LOCKOUT by the count within lockout_window. That a trip
time above the clock counts as within lockout_window is the model's choice (log 26). -/
def Obligations.EvaluationTripsByTheFirstCondition : Prop :=
  ∀ (s : State) (c : CoilId) (k : Coil), s.coils.length = 16 → (s.coil c).evalTimer = true →
    unlatched (s.coil c).state → EvaluatedRecord s c k →
    (hardTrip k → ∃ t, exec (.evaluation c) s = .next t ∧ Tripped s t c k .hard) ∧
    (¬ hardTrip k → doseTrip k → ∃ t, exec (.evaluation c) s = .next t ∧ Tripped s t c k .dose) ∧
    (¬ hardTrip k → ¬ doseTrip k → contactTrip s.contacts k →
      ∃ t, exec (.evaluation c) s = .next t ∧ Tripped s t c k .contact) ∧
    (¬ hardTrip k → ¬ doseTrip k → ¬ contactTrip s.contacts k → blindTripHolds s k →
      ∃ t, exec (.evaluation c) s = .next t ∧ Tripped s t c k .blind)

/-- PLANT-TRIP holds the coil in GUARD (R64). -/
def heldByPlant (b : ContactBlock) (k : Coil) : Prop :=
  k.cfg.followsPlantTrip = true ∧ b.recognition ≠ .clear

/-- Mp is known and below a band (R52). -/
def predictedBelow (k : Coil) (band : Int) : Prop := ∃ mp, k.eval.mp = some mp ∧ mp < band

/-- The cause of the guard condition (R52, R64): SENSING, MARGIN, DOSE, then PLANT. -/
structure GuardCause (b : ContactBlock) (k : Coil) (cause : Option Cause) : Prop where
  sensing : k.eval.sensingLost = true → cause = some .sensing
  margin : k.eval.sensingLost = false → predictedBelow k k.cfg.guardBand → cause = some .margin
  dose : k.eval.sensingLost = false → ¬ predictedBelow k k.cfg.guardBand → 0 < k.eval.dose →
    cause = some .dose
  plant : k.eval.sensingLost = false → ¬ predictedBelow k k.cfg.guardBand → k.eval.dose = 0 →
    heldByPlant b k → cause = some .plant
  none : k.eval.sensingLost = false → ¬ predictedBelow k k.cfg.guardBand → k.eval.dose = 0 →
    ¬ heldByPlant b k → cause = .none

/-- The cause of the watch condition (R52, R64): MARGIN, then COLD-WEATHER. -/
structure WatchCause (k : Coil) (cause : Option Cause) : Prop where
  margin : predictedBelow k k.cfg.watchBand → cause = some .margin
  cold : ¬ predictedBelow k k.cfg.watchBand → k.coldWeather = true → cause = some .coldWeather
  none : ¬ predictedBelow k k.cfg.watchBand → k.coldWeather = false → cause = .none

/-- D is 0 and Mp is a band plus hysteresis or more (R53). -/
def clearedBy (k : Coil) (band : Int) : Prop :=
  k.eval.dose = 0 ∧ ∃ mp, k.eval.mp = some mp ∧ band + k.cfg.hysteresis ≤ mp

/-- An evaluation that changes nothing but the coil's results, timers and COLD-WEATHER. -/
def evaluatedOnly (s : State) (c : CoilId) (k : Coil) : State := { s with coils := s.coils.set c.val k }

/-- R69, R70: in NORMAL the guard condition leads to GUARD and else the watch condition to WATCH, with their
causes; without either the coil stays. STARTUP does the same at its end, without either to NORMAL: hold
over, quorum of faces, water in place. -/
def Obligations.EvaluationInStartupAndNormal : Prop :=
  ∀ (s : State) (c : CoilId) (k : Coil) (g w : Option Cause), s.coils.length = 16 →
    (s.coil c).evalTimer = true → EvaluatedRecord s c k → noTrip s k →
    GuardCause s.contacts k g → WatchCause k w →
    let ends := (s.coil c).state = .startup ∧ k.cfg.startupHold ≤ k.dwell ∧
      k.cfg.faceQuorum ≤ k.eval.n ∧ k.eval.waterInPlace = true
    (ends ∨ (s.coil c).state = .normal →
      (g ≠ none → ∃ t, exec (.evaluation c) s = .next t ∧ Entered s t c k .guard g) ∧
      (g = none → w ≠ none → ∃ t, exec (.evaluation c) s = .next t ∧ Entered s t c k .watch w)) ∧
    (ends → g = none → w = none → ∃ t, exec (.evaluation c) s = .next t ∧ Entered s t c k .normal none) ∧
    ((s.coil c).state = .normal → g = none → w = none →
      exec (.evaluation c) s = .next (evaluatedOnly s c k)) ∧
    ((s.coil c).state = .startup → ¬ ends → exec (.evaluation c) s = .next (evaluatedOnly s c k))

/-- An evaluation after which the coil has the cause of the condition that holds it where it is, and
joins the pending set when that is another than before (R60). -/
def causeKept (s : State) (c : CoilId) (k : Coil) (cause : Option Cause) : State :=
  if k.cause = cause then evaluatedOnly s c k
  else { evaluatedOnly s c { k with cause := cause } with
    notice := { s.notice with coils := s.notice.coils.set c.val .set } }

/-- R71, R72: a coil in WATCH goes to GUARD by the guard condition, else to NORMAL by watch release after
its dwell, else takes the cause of a watch condition; a coil in GUARD takes the cause of a guard condition,
else goes to WATCH by guard release after its dwell. -/
def Obligations.EvaluationInWatchAndGuard : Prop :=
  ∀ (s : State) (c : CoilId) (k : Coil) (g w : Option Cause), s.coils.length = 16 →
    (s.coil c).evalTimer = true → EvaluatedRecord s c k → noTrip s k →
    GuardCause s.contacts k g → WatchCause k w →
    ((s.coil c).state = .watch →
      let released := clearedBy k k.cfg.watchBand ∧ k.coldWeather = false ∧ k.cfg.watchDwell ≤ k.dwell
      (g ≠ none → ∃ t, exec (.evaluation c) s = .next t ∧ Entered s t c k .guard g) ∧
      (g = none → released → ∃ t, exec (.evaluation c) s = .next t ∧ Entered s t c k .normal none) ∧
      (g = none → ¬ released → w ≠ none → exec (.evaluation c) s = .next (causeKept s c k w)) ∧
      (g = none → ¬ released → w = none → exec (.evaluation c) s = .next (evaluatedOnly s c k))) ∧
    ((s.coil c).state = .guard →
      let released := clearedBy k k.cfg.guardBand ∧ ¬ heldByPlant s.contacts k ∧ k.cfg.guardDwell ≤ k.dwell
      (g ≠ none → exec (.evaluation c) s = .next (causeKept s c k g)) ∧
      (g = none → released → ∃ t, exec (.evaluation c) s = .next t ∧
        Entered s t c k .watch (some (if ¬ w = some .coldWeather then .margin else .coldWeather))) ∧
      (g = none → ¬ released → exec (.evaluation c) s = .next (evaluatedOnly s c k)))

/-- The clear conditions of R74: no contact or one that reads the state that is not cold, and a known M
of 0 or more. -/
def clearHolds (b : ContactBlock) (k : Coil) : Prop :=
  (∀ r, k.cfg.contact = some r →
    inputReads b r.input (match r.polarity with | .openCold => .closed | .closedCold => .opened)) ∧
  ∃ m, k.eval.m = some m ∧ 0 ≤ m

/-- R73, R74: a coil in TRIP counts its auto-reset timer while the clear conditions hold, and at auto_reset
goes to GUARD with cause RESET and D 0; in LOCKOUT, and with auto_reset absent, the timer stays at 0. -/
def Obligations.EvaluationWhenLatched : Prop :=
  ∀ (s : State) (c : CoilId) (k : Coil), s.coils.length = 16 → (s.coil c).evalTimer = true →
    EvaluatedRecord s c k →
    ((s.coil c).state = .lockout ∨ ((s.coil c).state = .trip ∧ k.cfg.autoReset = none) →
      exec (.evaluation c) s = .next (evaluatedOnly s c { k with autoResetTimer := 0 })) ∧
    (∀ limit, (s.coil c).state = .trip → k.cfg.autoReset = some limit → 0 < limit →
      (¬ clearHolds s.contacts k →
        exec (.evaluation c) s = .next (evaluatedOnly s c { k with autoResetTimer := 0 })) ∧
      (clearHolds s.contacts k → min 3600 (k.autoResetTimer + 1) < limit →
        exec (.evaluation c) s = .next
          (evaluatedOnly s c { k with autoResetTimer := min 3600 (k.autoResetTimer + 1) })) ∧
      (clearHolds s.contacts k → limit ≤ min 3600 (k.autoResetTimer + 1) →
        ∃ t, exec (.evaluation c) s = .next t ∧
          Entered s t c { k with autoResetTimer := 0, eval := { k.eval with dose := 0 } } .guard
            (some .reset)))

/-! ### Management requests (chapters 1, 4 and 10) -/

/-- A number moved to the nearest end of a range (00_scope.md). -/
def within (lo hi z : Int) : Int := max lo (min hi z)

/-- A count moved to the nearest end of a range (00_scope.md). -/
def withinNat (lo hi n : Nat) : Nat := max lo (min hi n)

/-- ACCEPTED, or ACCEPTED-CLAMPED when something was clamped (R172). -/
def acceptedCode (unchanged : Prop) [Decidable unchanged] : Byte := if unchanged then 0x00#8 else 0x01#8

/-- R156, R157, R174, R175: an ADMIN request for which no place can be reserved is answered BUSY in a free
place, or with none free dropped and counted TRUNK-FULL; one that is taken is refused BUSY while a RESTART
is pending, and of the classes of R174 while a COMMIT is in flight. -/
def Obligations.RequestsTurnedAwayBusy : Prop :=
  ∀ (i : Instr) (s : State) (src code : Byte), adminRequest i = some (src, code) →
    (7 ≤ s.trunkOut.reserved → s.trunkOut.reserved + s.trunkOut.filled.length < 10 →
      exec i s = .next (s.replied src code 0x19#8 [])) ∧
    (10 ≤ s.trunkOut.reserved + s.trunkOut.filled.length →
      exec i s = .next { s with trunk := { s.trunk with counters :=
        { s.trunk.counters with trunkFull := bump s.trunk.counters.trunkFull } } }) ∧
    (s.trunkOut.canReserve = true → s.restartPending = true →
      exec i s = .next (s.replied src code 0x19#8 [])) ∧
    (s.trunkOut.canReserve = true → s.commit ≠ none → refusedDuringCommit code = true →
      exec i s = .next (s.replied src code 0x19#8 []))

/-- R171: every request that is taken and answered in its own event has its reply at the end of the fill
order, with its code first; a refused request has changed nothing else and carries no data. -/
def Obligations.RefusedRequestsChangeNothing : Prop :=
  ∀ (i : Instr) (s : State) (src code : Byte), adminRequest i = some (src, code) →
    s.trunkOut.canReserve = true →
    ∃ t, exec i s = .next t ∧
      ((code = 0x0D#8 ∧ t.commit ≠ none ∧ t.trunkOut.filled = s.trunkOut.filled) ∨
        ∃ result data role before, t.trunkOut.filled =
            before ++ [{ telegram := s.replyTo src code result data, role := role }] ∧
          before.map OutTelegram.telegram = s.trunkOut.filled.map OutTelegram.telegram ∧
          (16 ≤ result.toNat → t = s.replied src code result []))

/-- The fields of a configuration block (R179) that each fit their bytes. -/
structure FitsBlock (k : CoilConfig) : Prop where
  bytes : k.faceQuorum < 256 ∧ k.lockoutCount < 256 ∧ 0 ≤ k.hysteresis ∧ k.hysteresis < 256
  temperatures : ∀ z ∈ [k.airLimit, k.waterLimit, k.watchBand, k.guardBand, k.hardBand, k.degradeMargin,
    k.blindTripOat], -32768 ≤ z ∧ z < 32768
  counts : ∀ n ∈ [k.tripDose, k.leak, k.lookahead, k.watchDwell, k.guardDwell, k.startupHold,
    k.blindTripTime], n < 65536
  window : k.lockoutWindow < 4294967296
  autoReset : ∀ n, k.autoReset = some n → 0 < n ∧ n < 65536
  coldWeather : ∀ z, k.coldWeatherOat = some z → -32768 < z ∧ z < 32768

/-- The configuration that LOAD-COIL stores (R1, R2). -/
def storedConfig (k : CoilConfig) : CoilConfig :=
  { faceQuorum := withinNat 1 6 k.faceQuorum
    airLimit := within (-1000) 800 k.airLimit
    waterLimit := within (-1500) 1000 k.waterLimit
    watchBand := within 0 1000 k.watchBand
    guardBand := within 0 (within 0 1000 k.watchBand) k.guardBand
    hysteresis := within 10 200 k.hysteresis
    hardBand := within 50 1000 k.hardBand
    tripDose := withinNat 100 60000 k.tripDose
    leak := withinNat 0 500 k.leak
    lookahead := withinNat 0 600 k.lookahead
    degradeMargin := within 0 500 k.degradeMargin
    watchDwell := withinNat 0 3600 k.watchDwell
    guardDwell := withinNat 30 3600 k.guardDwell
    startupHold := withinNat 10 900 k.startupHold
    autoReset := k.autoReset.map (withinNat 60 3600)
    lockoutCount := withinNat 1 4 k.lockoutCount
    lockoutWindow := withinNat 600 86400 k.lockoutWindow
    blindTripTime := if k.blindTripTime = 0 then 0 else withinNat 60 3600 k.blindTripTime
    blindTripOat := within (-4000) 1000 k.blindTripOat
    coldWeatherOat := k.coldWeatherOat.map (within (-4000) 1000)
    contact := k.contact
    drivesTripLine := k.drivesTripLine
    followsPlantTrip := k.followsPlantTrip }

/-- The defaults of R1's table. -/
def manualDefaults : CoilConfig where
  faceQuorum := 2
  airLimit := 300
  waterLimit := 400
  watchBand := 300
  guardBand := 100
  hysteresis := 50
  hardBand := 200
  tripDose := 3000
  leak := 20
  lookahead := 120
  degradeMargin := 100
  watchDwell := 60
  guardDwell := 300
  startupHold := 120
  autoReset := none
  lockoutCount := 3
  lockoutWindow := 3600
  blindTripTime := 600
  blindTripOat := 500
  coldWeatherOat := none
  contact := none
  drivesTripLine := true
  followsPlantTrip := false

/-- An argument list ends at a field boundary of its layout, past the fields that may not be omitted
(R171). -/
def endsAtField (widths : List Nat) (required : Nat) (args : List Byte) : Prop :=
  ∃ n, required ≤ n ∧ n ≤ widths.length ∧ args.length = (widths.take n).sum

/-- An argument byte as a number. -/
def argument (args : List Byte) (i : Nat) : Nat := (args.getD i 0).toNat

/-- An argument byte is a station address 1 to 199 (R6, R11). -/
def argumentIsStation (args : List Byte) (i : Nat) : Prop := 1 ≤ argument args i ∧ argument args i ≤ 199

/-- Widths of the arguments of LOAD-COIL (R179): the coil and the configuration block of 41 bytes. -/
def coilWidths : List Nat := [1, 1, 2, 2, 2, 2, 1, 2, 2, 2, 2, 2, 2, 2, 2, 2, 1, 4, 2, 2, 2, 1, 1]

/-- R1, R2, R4: LOAD-COIL with a whole configuration block stores each field clamped into its range; with
only the coil and face_quorum every other field takes its default; enabled_in_image and the runtime stay.
For a coil that is not OFFLINE it is refused STATE; MALFORMED with a coil, contact byte or flags byte
outside its set, or arguments that end inside a field, before face_quorum or past the block. That two-byte
temperature fields are signed is the model's reading (log 11). -/
def Obligations.LoadCoilStoresClampedFields : Prop :=
  ∀ (s : State) (src : Byte) (c : CoilId) (k : CoilConfig) (quorum : Nat), s.takesRequests →
    FitsBlock k → quorum < 256 →
    ((s.coil c).state = .offline →
      exec (.loadCoil src (BitVec.ofNat 8 c.val :: configBlock k false)) s = .next
        ({ s with coils := s.coils.set c.val { s.coil c with cfg := storedConfig k } }.replied
          src 0x01#8 (acceptedCode (storedConfig k = k)) []) ∧
      exec (.loadCoil src [BitVec.ofNat 8 c.val, BitVec.ofNat 8 quorum]) s = .next
        ({ s with coils := s.coils.set c.val { s.coil c with cfg :=
            { manualDefaults with faceQuorum := withinNat 1 6 quorum } } }.replied
          src 0x01#8 (acceptedCode (1 ≤ quorum ∧ quorum ≤ 6)) [])) ∧
    ((s.coil c).state ≠ .offline →
      exec (.loadCoil src (BitVec.ofNat 8 c.val :: configBlock k false)) s = .next
        (s.replied src 0x01#8 0x10#8 [])) ∧
    (∀ args, ¬ endsAtField coilWidths 2 args ∨ 16 ≤ argument args 0 ∨
        (41 ≤ args.length ∧ 32 ≤ argument args 40 ∧ argument args 40 < 255) ∨
        (42 ≤ args.length ∧ 4 ≤ argument args 41) →
      exec (.loadCoil src args) s = .next (s.replied src 0x01#8 0x13#8 []))

/-- The configuration that LOAD-POINT stores (R7). -/
def storedPoint (p : PointConfig) : PointConfig :=
  { p with
    offset := within (-200) 200 p.offset
    maxAge := withinNat 5 900 p.maxAge
    pollInterval :=
      if p.pollInterval = 0 then 0
      else min (withinNat 2 900 p.pollInterval) (withinNat 5 900 p.maxAge - 1) }

/-- A point that LOAD-POINT can ask for (R6, R179). -/
structure PointRequest (p : PointConfig) : Prop where
  station : 1 ≤ p.station ∧ p.station ≤ 199
  channel : p.channel ≤ 63
  face : ∀ i, p.role = .face i → 1 ≤ i ∧ i ≤ 6
  agree : (∃ c, p.owner = .coil c ∧ p.role ≠ .oat) ∨ (p.owner = .plant ∧ p.role = .oat)
  numbers : -32768 ≤ p.offset ∧ p.offset < 32768 ∧ p.maxAge < 65536 ∧ p.pollInterval < 65536

/-- The argument bytes of a LOAD-POINT (R179). -/
def pointArgs (p : PointConfig) : List Byte :=
  [BitVec.ofNat 8 p.station, BitVec.ofNat 8 p.channel, BitVec.ofNat 8 (ownerCode p.owner),
    BitVec.ofNat 8 (roleCode p.role)] ++ be16s p.offset ++ be16 p.maxAge ++ be16 p.pollInterval

/-- The coil that owns a point is OFFLINE, or it belongs to PLANT (R4). -/
def ownerRests (s : State) (owner : Owner) : Prop := ∀ c, owner = .coil c → (s.coil c).state = .offline

/-- An entry has the (station, channel) key of another configuration. -/
def sameKeyAs (p : PointConfig) (e : PointEntry) : Prop :=
  e.cfg.station = p.station ∧ e.cfg.channel = p.channel

/-- The entry whose runtime starts afresh (R9, R22, R29). -/
def freshEntry (p : PointConfig) (clock : Nat) : PointEntry :=
  { cfg := p
    rt := { state := .awaiting, lastValue := none, lastStatus := none, lastSample := none, lastPoll := none,
            ageBase := clock, pollNeed := decide (p.pollInterval ≠ 0), pollDue := none } }

/-- R4 to R9: LOAD-POINT puts its clamped entry, its runtime afresh, at the index its key holds or else at
the lowest free index; it is refused FULL with none free, DUPLICATE when another entry has its owner and
role, and STATE when its owner or the owner of the entry it would replace is in service. An omitted max_age
is 60 and an omitted poll_interval 0. An identifier outside its set, an owner that does not fit the role, or
a wrong length is MALFORMED. That the offset is signed is the model's reading (log 11). -/
def Obligations.LoadPointPlacesItsEntry : Prop :=
  ∀ (s : State) (src : Byte) (p : PointConfig), s.takesRequests → PointRequest p →
    let gate := ownerRests s p.owner ∧ ∀ e, some e ∈ s.points → sameKeyAs p e → ownerRests s e.cfg.owner
    let unique := ∀ e, some e ∈ s.points → ¬ sameKeyAs p e → e.cfg.owner = p.owner → e.cfg.role ≠ p.role
    let loaded (i : Nat) : State :=
      { s with points := s.points.set i (some (freshEntry (storedPoint p) s.plantClock)) }.replied
        src 0x02#8 (acceptedCode (storedPoint p = p)) []
    (∀ (i : Nat) (e : PointEntry), gate → unique → s.points[i]? = some (some e) → sameKeyAs p e →
      (∀ j e', j < i → s.points[j]? = some (some e') → ¬ sameKeyAs p e') →
      exec (.loadPoint src (pointArgs p)) s = .next (loaded i)) ∧
    ((∀ e, some e ∈ s.points → ¬ sameKeyAs p e) → gate → unique →
      (∀ i : Nat, s.points[i]? = some none → (∀ j, j < i → s.points[j]? ≠ some none) →
        exec (.loadPoint src (pointArgs p)) s = .next (loaded i)) ∧
      (none ∉ s.points →
        exec (.loadPoint src (pointArgs p)) s = .next (s.replied src 0x02#8 0x11#8 []))) ∧
    (gate → ¬ unique → exec (.loadPoint src (pointArgs p)) s = .next (s.replied src 0x02#8 0x12#8 [])) ∧
    (¬ ownerRests s p.owner →
      exec (.loadPoint src (pointArgs p)) s = .next (s.replied src 0x02#8 0x10#8 [])) ∧
    (∀ (i : Nat) (e : PointEntry), s.points[i]? = some (some e) → sameKeyAs p e →
      (∀ j e', j < i → s.points[j]? = some (some e') → ¬ sameKeyAs p e') → ¬ ownerRests s e.cfg.owner →
      exec (.loadPoint src (pointArgs p)) s = .next (s.replied src 0x02#8 0x10#8 [])) ∧
    (p.maxAge = 60 → p.pollInterval = 0 →
      exec (.loadPoint src ((pointArgs p).take 6)) s = exec (.loadPoint src (pointArgs p)) s) ∧
    (p.pollInterval = 0 →
      exec (.loadPoint src ((pointArgs p).take 8)) s = exec (.loadPoint src (pointArgs p)) s) ∧
    (∀ args, ¬ endsAtField [1, 1, 1, 1, 2, 2, 2] 5 args ∨ ¬ argumentIsStation args 0 ∨
        64 ≤ argument args 1 ∨ 17 ≤ argument args 2 ∨ argument args 3 = 0 ∨ 9 ≤ argument args 3 ∨
        ¬ (argument args 2 = 16 ↔ argument args 3 = 8) →
      exec (.loadPoint src args) s = .next (s.replied src 0x02#8 0x13#8 []))

/-- R4, R10: CLEAR-POINT frees the index of its key, is accepted with no change when no entry has it, and is
refused STATE while the coil that owns the entry is in service. A station or channel outside its set, or a
wrong length, is MALFORMED. -/
def Obligations.ClearPointFreesItsIndex : Prop :=
  ∀ (s : State) (src : Byte) (p : PointConfig), s.takesRequests → PointRequest p →
    (∀ (i : Nat) (e : PointEntry), s.points[i]? = some (some e) → sameKeyAs p e →
      (∀ j e', j < i → s.points[j]? = some (some e') → ¬ sameKeyAs p e') →
      (ownerRests s e.cfg.owner →
        exec (.clearPoint src [BitVec.ofNat 8 p.station, BitVec.ofNat 8 p.channel]) s = .next
          ({ s with points := s.points.set i none }.replied src 0x03#8 0x00#8 [])) ∧
      (¬ ownerRests s e.cfg.owner →
        exec (.clearPoint src [BitVec.ofNat 8 p.station, BitVec.ofNat 8 p.channel]) s = .next
          (s.replied src 0x03#8 0x10#8 []))) ∧
    ((∀ e, some e ∈ s.points → ¬ sameKeyAs p e) →
      exec (.clearPoint src [BitVec.ofNat 8 p.station, BitVec.ofNat 8 p.channel]) s = .next
        (s.replied src 0x03#8 0x00#8 [])) ∧
    (∀ args, args.length ≠ 2 ∨ ¬ argumentIsStation args 0 ∨ 64 ≤ argument args 1 →
      exec (.clearPoint src args) s = .next (s.replied src 0x03#8 0x13#8 []))

/-- The argument bytes of a LOAD-RULE (R179) with a value field. -/
def ruleArgs (r : OverrideRule) (value : Nat) : List Byte :=
  [BitVec.ofNat 8 r.coil.val, BitVec.ofNat 8 r.station, BitVec.ofNat 8 r.channel,
    (match r.tag with
      | .heatingValve => 0#8 | .pump => 1#8 | .oaDamper => 2#8 | .fan => 3#8 | .other => 4#8),
    (match r.level with | .w => 1#8 | .g => 2#8 | .t => 3#8),
    (match r.mode with | .floor => 0#8 | .ceiling => 1#8 | .force => 2#8)] ++
  be16 value ++ [if r.restore then 1#8 else 0#8] ++ be16 r.refresh

/-- A rule has the key of another (R11). -/
def sameRuleKey (r q : OverrideRule) : Prop :=
  q.coil = r.coil ∧ q.station = r.station ∧ q.channel = r.channel ∧ q.level = r.level

/-- A record is for the pair of a rule. -/
def recordOf (r : OverrideRule) (x : ActuatorRecord) : Prop :=
  x.station = r.station ∧ x.channel = r.channel

/-- An actuator record with the initial values of R14. -/
def newRecord (station channel : Nat) : ActuatorRecord where
  station := station
  channel := channel
  constraint := none
  cmdLast := none
  sentValue := none
  ackedValue := none
  mismatch := false
  need := .none
  refreshTimer := none
  retryNotBefore := none
  missCount := 0
  lost := false

/-- The records after a LOAD-RULE of `r` has made the rules `rules` (R12, R14, R85). -/
def recordsAfterLoad (s : State) (rules : List (Option OverrideRule)) (r : OverrideRule)
    (records : List (Option ActuatorRecord)) : Prop :=
  ∃ base : List (Option ActuatorRecord),
    (((∃ x, some x ∈ s.records ∧ recordOf r x) ∧ base = s.records) ∨
      ((∀ x, some x ∈ s.records → ¬ recordOf r x) ∧
        ∃ i : Nat, s.records[i]? = some none ∧ (∀ j, j < i → s.records[j]? ≠ some none) ∧
          base = s.records.set i (some (newRecord r.station r.channel))) ∨
      ((∀ x, some x ∈ s.records → ¬ recordOf r x) ∧ none ∉ s.records ∧ base = s.records)) ∧
    records = base.map (Option.map (fun x =>
      if x.station = r.station ∧ x.channel = r.channel
      then recomputeRecord rules s.heldLevels s.plantClock x else x))

/-- R4, R11, R12, R14, R85: LOAD-RULE puts its clamped rule at the index its key holds or else at the lowest
free index, creates the record of its pair when there is none, and recomputes it; it is refused FULL with no
index free and STATE while its coil is in service; an omitted refresh is 60. An identifier, tag, level, mode
or marker outside its set, or a wrong length, is MALFORMED. A value field from 32768 upward is 0 or 1000
afterwards, as its sign is left open (log 11). -/
def Obligations.LoadRulePlacesItsRule : Prop :=
  ∀ (s : State) (src : Byte) (r : OverrideRule) (value : Nat), s.takesRequests →
    1 ≤ r.station ∧ r.station ≤ 199 → r.channel ≤ 63 → r.refresh < 65536 → value < 65536 →
    ((s.coil r.coil).state = .offline →
      (∀ i : Nat,
        (∃ q, s.rules[i]? = some (some q) ∧ sameRuleKey r q ∧
          ∀ j q', j < i → s.rules[j]? = some (some q') → ¬ sameRuleKey r q') ∨
        ((∀ q, some q ∈ s.rules → ¬ sameRuleKey r q) ∧ s.rules[i]? = some none ∧
          ∀ j, j < i → s.rules[j]? ≠ some none) →
        ∃ (stored : Int) (records : List (Option ActuatorRecord)),
          (value < 32768 → stored = min 1000 (value : Int)) ∧
          (32768 ≤ value → stored = 0 ∨ stored = 1000) ∧
          recordsAfterLoad s (s.rules.set i
            (some { r with value := stored, refresh := withinNat 5 600 r.refresh })) r records ∧
          exec (.loadRule src (ruleArgs r value)) s = .next ({ s with
            rules := s.rules.set i
              (some { r with value := stored, refresh := withinNat 5 600 r.refresh }),
            records := records }.replied src 0x04#8
              (acceptedCode (value ≤ 1000 ∧ 5 ≤ r.refresh ∧ r.refresh ≤ 600)) [])) ∧
      ((∀ q, some q ∈ s.rules → ¬ sameRuleKey r q) → none ∉ s.rules →
        exec (.loadRule src (ruleArgs r value)) s = .next (s.replied src 0x04#8 0x11#8 []))) ∧
    ((s.coil r.coil).state ≠ .offline →
      exec (.loadRule src (ruleArgs r value)) s = .next (s.replied src 0x04#8 0x10#8 [])) ∧
    (r.refresh = 60 →
      exec (.loadRule src ((ruleArgs r value).take 9)) s = exec (.loadRule src (ruleArgs r value)) s) ∧
    (∀ args, ¬ endsAtField [1, 1, 1, 1, 1, 1, 2, 1, 2] 8 args ∨ 16 ≤ argument args 0 ∨
        ¬ argumentIsStation args 1 ∨ 64 ≤ argument args 2 ∨ 5 ≤ argument args 3 ∨ argument args 4 = 0 ∨
        4 ≤ argument args 4 ∨ 3 ≤ argument args 5 ∨ 2 ≤ argument args 8 →
      exec (.loadRule src args) s = .next (s.replied src 0x04#8 0x13#8 []))

/-- The argument bytes of a CLEAR-RULE (R179). -/
def ruleKeyArgs (r : OverrideRule) : List Byte :=
  [BitVec.ofNat 8 r.coil.val, BitVec.ofNat 8 r.station, BitVec.ofNat 8 r.channel,
    (match r.level with | .w => 1#8 | .g => 2#8 | .t => 3#8)]

/-- R4, R13, R15: CLEAR-RULE frees the index of its key; its pair's record is recomputed while another rule
names the pair and removed otherwise, an own SET in flight for it losing its record. A key that the table
does not hold is accepted with no change; a coil in service is refused STATE; an identifier or level outside
its set, or a wrong length, MALFORMED. That a missing key is accepted whatever the coil's state, and
recomputes no record, is the model's reading (log 12). -/
def Obligations.ClearRuleFreesItsIndex : Prop :=
  ∀ (s : State) (src : Byte) (r : OverrideRule), s.takesRequests →
    1 ≤ r.station ∧ r.station ≤ 199 → r.channel ≤ 63 →
    (∀ (i : Nat) (q : OverrideRule), s.rules[i]? = some (some q) → sameRuleKey r q →
      (∀ j q', j < i → s.rules[j]? = some (some q') → ¬ sameRuleKey r q') →
      let rules := s.rules.set i none
      ((s.coil r.coil).state = .offline →
        (∃ q', some q' ∈ rules ∧ q'.station = r.station ∧ q'.channel = r.channel) →
        exec (.clearRule src (ruleKeyArgs r)) s = .next ({ s with
          rules := rules,
          records := s.records.map (Option.map (fun (x : ActuatorRecord) =>
            if x.station = r.station ∧ x.channel = r.channel
            then recomputeRecord rules s.heldLevels s.plantClock x else x)) }.replied
              src 0x05#8 0x00#8 [])) ∧
      ((s.coil r.coil).state = .offline →
        (∀ q', some q' ∈ rules → ¬ (q'.station = r.station ∧ q'.channel = r.channel)) →
        ∃ (records : List (Option ActuatorRecord)) (txn : TxnState),
          exec (.clearRule src (ruleKeyArgs r)) s = .next
            ({ s with rules := rules, records := records, txn := txn }.replied src 0x05#8 0x00#8 []) ∧
          records.length = s.records.length ∧
          (∀ (j : Nat) (x : ActuatorRecord), s.records[j]? = some (some x) →
            (recordOf r x → records[j]? = some none) ∧ (¬ recordOf r x → records[j]? = some (some x))) ∧
          (∀ j : Nat, s.records[j]? = some none → records[j]? = some none) ∧
          (∀ phase t live, s.txn = .outstanding phase t → t.origin = .ownSet r.station r.channel live →
            txn = .outstanding phase { t with origin := .ownSet r.station r.channel false }) ∧
          ((∀ phase t live, s.txn = .outstanding phase t → t.origin ≠ .ownSet r.station r.channel live) →
            txn = s.txn)) ∧
      ((s.coil r.coil).state ≠ .offline →
        exec (.clearRule src (ruleKeyArgs r)) s = .next (s.replied src 0x05#8 0x10#8 []))) ∧
    ((∀ q, some q ∈ s.rules → ¬ sameRuleKey r q) →
      exec (.clearRule src (ruleKeyArgs r)) s = .next (s.replied src 0x05#8 0x00#8 [])) ∧
    (∀ args, args.length ≠ 4 ∨ 16 ≤ argument args 0 ∨ ¬ argumentIsStation args 1 ∨ 64 ≤ argument args 2 ∨
        argument args 3 = 0 ∨ 4 ≤ argument args 3 →
      exec (.clearRule src args) s = .next (s.replied src 0x05#8 0x13#8 []))

/-- R16: LOAD-RELAY-SET replaces the whole set with 0 to 32 distinct stations, and is refused MALFORMED
otherwise. -/
def Obligations.LoadRelaySetReplacesTheSet : Prop :=
  ∀ (s : State) (src : Byte) (args : List Byte), s.takesRequests →
    (args.length ≤ 32 → (∀ a ∈ args, 1 ≤ a.toNat ∧ a.toNat ≤ 199) → args.Nodup →
      exec (.loadRelaySet src args) s = .next
        ({ s with relaySet := args.map BitVec.toNat }.replied src 0x06#8 0x00#8 [])) ∧
    (32 < args.length ∨ (∃ a ∈ args, a.toNat = 0 ∨ 199 < a.toNat) ∨ ¬ args.Nodup →
      exec (.loadRelaySet src args) s = .next (s.replied src 0x06#8 0x13#8 []))

/-- R139, R176: SET-PORTS stages the settings of both ports and the global settings, clamped, for the
departure of its own reply; an earlier SET-PORTS reply still in the list no longer stands for them. Nothing
is in force yet. A polarity or notices marker outside its encoding, or a wrong length, is MALFORMED. -/
def Obligations.SetPortsStagesItsSettings : Prop :=
  ∀ (s : State) (src d1 d2 debounce release moderation : Byte) (p1 p2 on : Bool) (timeout : Nat),
    s.takesRequests → timeout < 65536 →
    let polarity (b : Bool) : Polarity := if b then .inverted else .normal
    let marker (b : Bool) : Byte := if b then 1#8 else 0#8
    let fits := 5 ≤ timeout ∧ timeout ≤ 500 ∧ 2 ≤ debounce.toNat ∧ debounce.toNat ≤ 16 ∧
      1 ≤ release.toNat ∧ release.toNat ≤ 60 ∧ 1 ≤ moderation.toNat ∧ moderation.toNat ≤ 60
    (∀ args, args.length ≠ 10 ∨ 2 ≤ argument args 1 ∨ 2 ≤ argument args 3 ∨ 2 ≤ argument args 9 →
      exec (.setPorts src args) s = .next (s.replied src 0x0A#8 0x13#8 [])) ∧
    exec (.setPorts src ([d1, marker p1, d2, marker p2] ++ be16 timeout ++
        [debounce, release, moderation, marker on])) s = .next { s with
      staged :=
        { trunk := some { divisor := d1.toNat, polarity := polarity p1 }
          branch := some ({ divisor := d2.toNat, polarity := polarity p2 }, withinNat 5 500 timeout)
          globals := some { contactDebounce := withinNat 2 16 debounce.toNat,
                            plantTripRelease := withinNat 1 60 release.toNat,
                            moderation := withinNat 1 60 moderation.toNat, noticesOn := on }
          replyLeft := false },
      trunkOut := {
        reserved := s.trunkOut.reserved,
        filled := s.trunkOut.filled.map (fun o =>
            if o.role = .setPorts then { o with role := .plain } else o) ++
          [{ telegram := s.replyTo src 0x0A#8 (acceptedCode fits) [], role := .setPorts }] } }

/-- R17, R68: ENABLE-COIL of an OFFLINE coil with enough FACE entries and a heating rule sets
enabled_in_image and enters STARTUP; without either it is refused INCOMPLETE; a coil in service is accepted
with no change; a coil number outside 0 to 15, or a wrong length, is MALFORMED. It is served while a COMMIT
is in flight (R174). -/
def Obligations.EnableCoilEntersStartup : Prop :=
  ∀ (s : State) (src : Byte) (c : CoilId), s.trunkOut.canReserve = true → s.restartPending = false →
    s.coils.length = 16 →
    let faces := ((s.points.filterMap id).filter (fun e => e.cfg.owner == .coil c &&
      Machine.Role.isFace e.cfg.role)).length
    let heating := ∃ q, some q ∈ s.rules ∧ q.coil = c ∧ (q.tag = .heatingValve ∨ q.tag = .pump) ∧
      q.level ≠ .t
    ((s.coil c).state = .offline → (s.coil c).cfg.faceQuorum ≤ faces → heating →
      ∃ t, exec (.enableCoil src [BitVec.ofNat 8 c.val]) s = .next t ∧
        Entered (s.replied src 0x07#8 0x00#8 []) t c { (s.coil c).started with enabled := true }
          .startup none) ∧
    ((s.coil c).state = .offline → faces < (s.coil c).cfg.faceQuorum ∨ ¬ heating →
      exec (.enableCoil src [BitVec.ofNat 8 c.val]) s = .next (s.replied src 0x07#8 0x14#8 [])) ∧
    ((s.coil c).state ≠ .offline →
      exec (.enableCoil src [BitVec.ofNat 8 c.val]) s = .next (s.replied src 0x07#8 0x00#8 [])) ∧
    (∀ args, args.length ≠ 1 ∨ 16 ≤ argument args 0 →
      exec (.enableCoil src args) s = .next (s.replied src 0x07#8 0x13#8 []))

/-- R77: DISABLE-COIL takes a coil in STARTUP, NORMAL, WATCH or GUARD to OFFLINE, its runtime, timers and
trip history cleared, enabled_in_image clear and its evaluation timer stopped; a latched coil is refused
LATCHED, an OFFLINE one accepted with no change, and a coil number outside 0 to 15 refused MALFORMED. The
request is served while a COMMIT is in flight. -/
def Obligations.DisableCoilEntersOffline : Prop :=
  ∀ (s : State) (src : Byte) (c : CoilId), s.trunkOut.canReserve = true → s.restartPending = false →
    s.coils.length = 16 →
    (unlatched (s.coil c).state →
      ∃ t, exec (.disableCoil src [BitVec.ofNat 8 c.val]) s = .next t ∧
        Entered (s.replied src 0x08#8 0x00#8 []) t c
          { s.coil c with unknown := 0, autoResetTimer := 0, coldWeather := false, tripHistory := [],
                          enabled := false, evalTimer := false, eval := clearedRuntime } .offline none) ∧
    ((s.coil c).state = .trip ∨ (s.coil c).state = .lockout →
      exec (.disableCoil src [BitVec.ofNat 8 c.val]) s = .next (s.replied src 0x08#8 0x18#8 [])) ∧
    ((s.coil c).state = .offline →
      exec (.disableCoil src [BitVec.ofNat 8 c.val]) s = .next (s.replied src 0x08#8 0x00#8 [])) ∧
    (∀ args, args.length ≠ 1 ∨ 16 ≤ argument args 0 →
      exec (.disableCoil src args) s = .next (s.replied src 0x08#8 0x13#8 []))

/-- R75, R76: RESET-COIL of a latched coil whose clear conditions hold, out of LOCKOUT only with the
release, makes D 0 and enters GUARD with cause RESET, and out of LOCKOUT clears the trip history. It is
refused MALFORMED, NOT-LATCHED, LOCKED or NOT-CLEAR otherwise, in that order, and served while a COMMIT is
in flight. That the M kept across a RESTART counts for the clear conditions until the coil's next evaluation
is the model's choice (log 28). -/
def Obligations.ResetCoilEntersGuard : Prop :=
  ∀ (s : State) (src : Byte) (c : CoilId) (release : Bool), s.trunkOut.canReserve = true →
    s.restartPending = false → s.coils.length = 16 →
    let request : Instr := .resetCoil src [BitVec.ofNat 8 c.val, if release then 1#8 else 0#8]
    let latched := (s.coil c).state = .trip ∨ (s.coil c).state = .lockout
    let k := { s.coil c with autoResetTimer := 0, eval := { (s.coil c).eval with dose := 0 } }
    ((s.coil c).state = .trip → clearHolds s.contacts (s.coil c) →
      ∃ t, exec request s = .next t ∧
        Entered (s.replied src 0x09#8 0x00#8 []) t c k .guard (some .reset)) ∧
    ((s.coil c).state = .lockout → release = true → clearHolds s.contacts (s.coil c) →
      ∃ t, exec request s = .next t ∧
        Entered (s.replied src 0x09#8 0x00#8 []) t c { k with tripHistory := [] } .guard (some .reset)) ∧
    (¬ latched → exec request s = .next (s.replied src 0x09#8 0x16#8 [])) ∧
    ((s.coil c).state = .lockout → release = false →
      exec request s = .next (s.replied src 0x09#8 0x17#8 [])) ∧
    (latched → (s.coil c).state = .trip ∨ release = true → ¬ clearHolds s.contacts (s.coil c) →
      exec request s = .next (s.replied src 0x09#8 0x15#8 [])) ∧
    (∀ args, args.length ≠ 2 ∨ 16 ≤ argument args 0 ∨ 2 ≤ argument args 1 →
      exec (.resetCoil src args) s = .next (s.replied src 0x09#8 0x13#8 []))

/-- A port with its sticky flag clear (R149, R177). -/
def portUnsuspected (x : Port) : Port := { x with polaritySuspect := false }

/-- Bit `c` of a reply word says something of entry `c` of a list (R179). -/
def tells {α : Type} (word : BitVec 16) (entries : List α) (p : α → Prop) : Prop :=
  ∀ c, c < 16 → (word.getLsbD c = true ↔ ∃ x, entries[c]? = some x ∧ p x)

/-- One byte per number. -/
def bytesOf (ns : List Nat) : List Byte := ns.map (BitVec.ofNat 8)

/-- Two bytes per signed value, 0 where it is absent (R178, R179). -/
def signedFields (values : List (Option Int)) : List Byte := values.flatMap (fun v => be16s (v.getD 0))

/-- The data of a STATUS reply by R179, with its three words of bits and its reserved places. -/
def statusLayout (s : State) (latched inService opened : BitVec 16) (reserved : Nat) : List Byte :=
  be32 s.plantClock ++
  bytesOf [bitIf s.fallback 1 + bitIf s.commit.isSome 2 + bitIf s.globals.noticesOn 4 +
    bitIf s.staged.trunk.isSome 8 + bitIf s.staged.branch.isSome 16 + bitIf s.contacts.settled 32 +
    bitIf s.trunk.polaritySuspect 64 + bitIf s.branch.polaritySuspect 128, s.ownAddress.toNat] ++
  [latched, inService, opened].flatMap (fun w => be16 w.toNat) ++
  bytesOf [bitIf s.contacts.driven 1 + bitIf (!s.contacts.senseHigh) 2 +
    4 * s.contacts.recognition.code +
    16 * (if s.contacts.releaseTimer = none then 0 else if s.contacts.driven then 2 else 1)] ++
  be16 (s.contacts.releaseTimer.getD 0) ++
  bytesOf [s.relayQueue.length, reserved, s.trunkOut.filled.length, s.txn.code, s.fairness, s.noResponse]

/-- Section 0 of COIL-DETAIL by R179. -/
def runtimeLayout (c : CoilId) (k : Coil) : List Byte :=
  bytesOf [c.val, 0, k.state.code, causeCode k.cause, k.state.level] ++ be32 k.entryTime ++
  [k.dwell, k.unknown, k.autoResetTimer].flatMap be16 ++
  bytesOf [bitIf k.coldWeather 1 + bitIf k.eval.degraded 2 + bitIf k.eval.sensingLost 4 +
      bitIf k.eval.waterInPlace 8 + bitIf k.enabled 16, k.eval.n,
    bitIf k.eval.tf.isSome 1 + bitIf k.eval.tw.isSome 2 + bitIf k.eval.m.isSome 4 +
      bitIf k.eval.slope.isSome 8 + bitIf k.eval.mp.isSome 16] ++
  signedFields [k.eval.tf, k.eval.tw, k.eval.m, k.eval.slope, k.eval.mp] ++ be32 k.eval.dose

/-- Section 1 of COIL-DETAIL by R179: ring and trip history, oldest first, unused slots 0. -/
def historiesLayout (c : CoilId) (k : Coil) : List Byte :=
  bytesOf [c.val, 1, k.eval.ring.length] ++ ((k.eval.ring ++ List.replicate 8 0).take 8).flatMap be16s ++
  bytesOf [k.tripHistory.length] ++ ((k.tripHistory ++ List.replicate 4 0).take 4).flatMap be32

/-- A configuration block by R179, in the field order of R1. -/
def configLayout (k : CoilConfig) (enabled : Bool) : List Byte :=
  bytesOf [k.faceQuorum] ++ [k.airLimit, k.waterLimit, k.watchBand, k.guardBand].flatMap be16s ++
  bytesOf [k.hysteresis.toNat] ++ be16s k.hardBand ++ [k.tripDose, k.leak, k.lookahead].flatMap be16 ++
  be16s k.degradeMargin ++ [k.watchDwell, k.guardDwell, k.startupHold, k.autoReset.getD 0].flatMap be16 ++
  bytesOf [k.lockoutCount] ++ be32 k.lockoutWindow ++ be16 k.blindTripTime ++
  [k.blindTripOat, k.coldWeatherOat.getD (-32768)].flatMap be16s ++
  bytesOf [contactCode k.contact,
    bitIf k.drivesTripLine 1 + bitIf k.followsPlantTrip 2 + bitIf enabled 16]

/-- The clock less a stored time, saturated at 65535, and 0 for an absent one (R178). -/
def sinceLayout (clock : Nat) (time : Option Nat) : List Byte :=
  be16 (match time with | none => 0 | some t => min 65535 (clock - t))

/-- One entry of a READ-POINTS reply by R179. -/
def pointLayout (clock : Nat) (q : Nat × PointEntry) : List Byte :=
  bytesOf [q.1, q.2.cfg.station, q.2.cfg.channel, ownerCode q.2.cfg.owner, roleCode q.2.cfg.role] ++
  be16s q.2.cfg.offset ++ be16 q.2.cfg.maxAge ++ be16 q.2.cfg.pollInterval ++
  bytesOf [pointStateCode q.2.rt.state] ++
  signedFields [q.2.rt.lastValue] ++ [q.2.rt.lastStatus.getD 0] ++
  sinceLayout clock q.2.rt.lastSample ++ sinceLayout clock q.2.rt.lastPoll ++
  bytesOf [bitIf q.2.rt.lastValue.isSome 1 + bitIf q.2.rt.lastStatus.isSome 2 +
    bitIf q.2.rt.lastSample.isSome 4 + bitIf q.2.rt.lastPoll.isSome 8 + bitIf q.2.rt.pollNeed 16]

/-- One record of a READ-ACTUATOR reply by R179. -/
def recordLayout (q : Nat × ActuatorRecord) : List Byte :=
  bytesOf [q.1, q.2.station, q.2.channel,
    bitIf q.2.constraint.isSome 1 + bitIf (q.2.constraint.any Constraint.conflict) 2 +
      bitIf (q.2.constraint.any Constraint.floorPresent) 4 + bitIf q.2.cmdLast.isSome 8 +
      bitIf q.2.sentValue.isSome 16 + bitIf q.2.ackedValue.isSome 32 + bitIf q.2.mismatch 64 +
      bitIf q.2.lost 128] ++
  signedFields [q.2.constraint.map Constraint.lo, q.2.constraint.map Constraint.hi, q.2.cmdLast,
    q.2.sentValue, q.2.ackedValue] ++
  bytesOf [needCode q.2.need] ++ be32 q.2.need.since ++
  bytesOf [q.2.missCount, bitIf q.2.retryNotBefore.isSome 1] ++ be32 (q.2.retryNotBefore.getD 0)

/-- The occupied entries of a table at or after an index with their indices, ascending (R178). -/
def walked {α : Type} (start : Nat) (table : List (Option α)) (found : List (Nat × α)) : Prop :=
  found.Pairwise (fun a b => a.1 < b.1) ∧
  ∀ (i : Nat) (x : α), (i, x) ∈ found ↔ start ≤ i ∧ table[i]? = some (some x)

/-- The data of a reply that reports the first `count` of the entries found (R178, R179): the index after
the last one reported, or 0xFF when no other follows; how many; the entries. -/
def walkLayout {α : Type} (count : Nat) (layout : Nat × α → List Byte) (found : List (Nat × α)) :
    List Byte :=
  bytesOf [if found.length ≤ count then 255
      else match found[count - 1]? with | some q => q.1 + 1 | none => 255,
    min count found.length] ++ (found.take count).flatMap layout

/-- R150, R177 to R179: the reads answer ACCEPTED with the data of their layouts, as the part stands, byte
for byte; a walk of a table reports the occupied entries from its start index on, with the next index and
the count. STATUS and READ-COUNTERS clear what they report only when asked to, after the reply is formed. A
coil, section, start index or clear marker that there is not, or a wrong length, is MALFORMED. That the
reserved count of STATUS includes its own place, that no layout carries a role tag or an indication's trip
result, demands and clearances, and that an age is 0 when the clock stands below the stored time are the
model's readings (logs 14, 24, 30, 26). -/
def Obligations.ReadRequestsReplyWithTheirData : Prop :=
  ∀ (s : State) (src : Byte), s.trunkOut.canReserve = true → s.restartPending = false →
    (∃ (latched inService opened : BitVec 16),
      let data := statusLayout s latched inService opened (s.trunkOut.reserved + 1)
      data.length = 21 ∧
      tells latched s.coils (fun k => k.state = .trip ∨ k.state = .lockout) ∧
      tells inService s.coils (fun k => k.state ≠ .offline) ∧
      tells opened s.contacts.inputs (fun x => s.contacts.settled = true ∧ x.debounced = .opened) ∧
      exec (.status src []) s = .next (s.replied src 0x0B#8 0x00#8 data) ∧
      exec (.status src [1#8]) s = .next
        ({ s with trunk := portUnsuspected s.trunk, branch := portUnsuspected s.branch }.replied
          src 0x0B#8 0x00#8 data)) ∧
    (let data := [s.trunk.counters.framing, s.trunk.counters.breaks, s.trunk.counters.noise,
        s.trunk.counters.crc, s.trunk.counters.length, s.trunk.counters.gap, s.trunk.counters.address,
        s.trunk.counters.collision, s.trunk.counters.restart, s.trunk.counters.trunkFull,
        s.branch.counters.framing, s.branch.counters.breaks, s.branch.counters.noise,
        s.branch.counters.crc, s.branch.counters.length, s.branch.counters.gap,
        s.branch.counters.address, s.branch.counters.lineFault, s.branch.counters.restart].flatMap be16;
      data.length = 38 ∧
      exec (.readCounters src []) s = .next (s.replied src 0x0C#8 0x00#8 data) ∧
      exec (.readCounters src [1#8]) s = .next
        ({ s with trunk := { s.trunk with counters := .zero },
                  branch := { s.branch with counters := .zero } }.replied src 0x0C#8 0x00#8 data)) ∧
    (∀ c : CoilId, ∀ part ∈ [(0, runtimeLayout c (s.coil c), 32), (1, historiesLayout c (s.coil c), 36),
        (2, bytesOf [c.val, 2] ++ configLayout (s.coil c).cfg (s.coil c).enabled, 43)],
      part.2.1.length = part.2.2 ∧
      exec (.coilDetail src (bytesOf [c.val, part.1])) s =
        .next (s.replied src 0x0F#8 0x00#8 part.2.1)) ∧
    (∀ args, args.length ≠ 2 ∨ 16 ≤ argument args 0 ∨ 3 ≤ argument args 1 →
      exec (.coilDetail src args) s = .next (s.replied src 0x0F#8 0x13#8 [])) ∧
    (∀ args, 2 ≤ args.length ∨ 2 ≤ argument args 0 →
      exec (.status src args) s = .next (s.replied src 0x0B#8 0x13#8 []) ∧
      exec (.readCounters src args) s = .next (s.replied src 0x0C#8 0x13#8 [])) ∧
    (∀ args, args.length ≠ 1 ∨ 96 ≤ argument args 0 →
      exec (.readPoints src args) s = .next (s.replied src 0x10#8 0x13#8 [])) ∧
    (∀ args, args.length ≠ 1 ∨ 48 ≤ argument args 0 →
      exec (.readActuator src args) s = .next (s.replied src 0x11#8 0x13#8 [])) ∧
    (∀ start : Byte,
      (start.toNat < 96 → ∃ found : List (Nat × PointEntry),
        walked start.toNat s.points found ∧
        exec (.readPoints src [start]) s = .next (s.replied src 0x10#8 0x00#8
          (walkLayout 2 (pointLayout s.plantClock) found))) ∧
      (start.toNat < 48 → ∃ found : List (Nat × ActuatorRecord),
        walked start.toNat s.records found ∧
        exec (.readActuator src [start]) s = .next (s.replied src 0x11#8 0x00#8
          (walkLayout 1 recordLayout found)))) ∧
    ((∀ w : BitVec 16, be16 w.toNat = [w.extractLsb' 8 8, w.extractLsb' 0 8]) ∧
      (∀ w : BitVec 32, be32 w.toNat =
        [w.extractLsb' 24 8, w.extractLsb' 16 8, w.extractLsb' 8 8, w.extractLsb' 0 8]) ∧
      (∀ w : BitVec 16, be16s w.toInt = be16 w.toNat)) ∧
    ([CoilState.offline, .startup, .normal, .watch, .guard, .trip, .lockout].map CoilState.code =
        [0, 1, 2, 3, 4, 5, 6] ∧
      [none, some .margin, some .coldWeather, some .dose, some .sensing, some .plant, some .reset,
        some .hard, some .contact, some .blind].map causeCode = [0, 1, 2, 3, 4, 5, 6, 7, 8, 9] ∧
      (∀ c : CoilId, ownerCode (.coil c) = c.val) ∧ ownerCode .plant = 16 ∧
      (∀ i, roleCode (.face i) = i) ∧ [Sys2Proof.Role.water, .oat].map roleCode = [7, 8] ∧
      [PointState.awaiting, .valid, .stale, .fault].map pointStateCode = [0, 1, 2, 3] ∧
      (∀ t, [Need.none, .protect t, .refresh t, .restore t].map (fun n => (needCode n, n.since)) =
        [(0, 0), (1, t), (2, t), (3, t)]) ∧
      contactCode none = 255 ∧
      (∀ i : Fin 16, contactCode (some { input := i, polarity := .openCold }) = i.val ∧
        contactCode (some { input := i, polarity := .closedCold }) = 16 + i.val) ∧
      [PlantTrip.clear, .asserted, .releasing].map PlantTrip.code = [0, 1, 2] ∧
      (∀ (q : Transaction) (n : Nat), [TxnState.idle, .outstanding .brk q, .outstanding .sending q,
        .outstanding .awaiting q, .outstanding .receiving q, .turnaround n].map TxnState.code =
          [0, 1, 2, 3, 4, 5]))

/-! ### The settings store (chapters 10 and 11) -/

/-- The settings that a COMMIT writes (R185): staged ones where some are staged. -/
def committed (s : State) : ImageContents :=
  { relaySet := s.relaySet
    coils := s.coils.map (fun k => (k.cfg, k.enabled))
    points := s.points.map (Option.map PointEntry.cfg)
    rules := s.rules
    trunk := match s.staged.trunk with | some x => x | none => s.trunk.settings
    branch := match s.staged.branch with | some x => x.1 | none => s.branch.settings
    responseTimeout := match s.staged.branch with | some x => x.2 | none => s.responseTimeout
    globals := match s.staged.globals with | some x => x | none => s.globals }

/-- The check word of an image (R131, R184): the CRC over its contents in the order of R184's table. How
each part is laid out in bytes is free (log 7). -/
def checkOf (m : ImageContents) : Word16 :=
  crc16 (Config.imageRelaySet m.relaySet ++ (Config.imageCoils m.coils ++ (Config.imagePoints m.points ++
    (Config.imageRules m.rules ++ (Config.imagePorts m.trunk m.branch m.responseTimeout ++
      Config.imageGlobals m.globals)))))

/-- An image that passes its check, and its contents (R184, R186). -/
def passesWith (x : Store) (m : ImageContents) : Prop :=
  x.condition = .valid ∧ x.contents = some m ∧ x.checkWord = some (checkOf m)

/-- R173, R185, R186, R189: COMMIT takes the contents as they stand and erases the image, its place
reserved; a write that ends in success makes the image valid with those contents and answers ACCEPTED, and
FALLBACK ends with the fallback change flag and the trip output derived anew; one that fails answers
STORE-FAULT. With any argument COMMIT is MALFORMED. How each part of the image is laid out in bytes for the
check word is a free value (log 7). -/
def Obligations.CommitWritesTheImage : Prop :=
  ∀ (s : State) (src : Byte),
    (s.takesRequests → ∀ args, args ≠ [] →
      exec (.commit src args) s = .next (s.replied src 0x0D#8 0x13#8 [])) ∧
    (s.takesRequests →
      exec (.commit src []) s = .next { s with
        commit := some { requester := src, contents := committed s },
        store := { condition := .erased, contents := none, checkWord := none },
        trunkOut := { s.trunkOut with reserved := s.trunkOut.reserved + 1 } }) ∧
    (∀ q : CommitInFlight, s.commit = some q →
      let ended (result : Byte) (store : Store) : State := { s with
        commit := none, store := store,
        trunkOut := s.trunkOut.answering (s.replyTo q.requester 0x0D#8 result []) }
      let valid : Store := { condition := .valid, contents := some q.contents,
                             checkWord := some (checkOf q.contents) }
      exec (.commitWriteEnd false) s = .next
        (ended 0x1B#8 { condition := .failed, contents := none, checkWord := none }) ∧
      (s.fallback = false → exec (.commitWriteEnd true) s = .next (ended 0x00#8 valid)) ∧
      (s.fallback = true →
        let want := s.coils.any (fun k => k.cfg.drivesTripLine &&
          (k.state == .trip || k.state == .lockout))
        let contacts := s.contacts.driveAfter s.globals.plantTripRelease want
        exec (.commitWriteEnd true) s = .next { ended 0x00#8 valid with
          fallback := false, contacts := contacts,
          notice := { s.notice with
            fallbackChange := .set,
            plantTripEvent := plantTripEventAfter s.contacts contacts s.notice.plantTripEvent } }))

/-- A coil at power-on (R78, R56, R39). -/
def bootCoil (k : CoilConfig) (enabled : Bool) : Coil where
  cfg := k
  enabled := enabled
  state := .offline
  cause := none
  entryTime := 0
  dwell := 0
  unknown := 0
  autoResetTimer := 0
  coldWeather := false
  tripHistory := []
  evalTimer := false
  eval := clearedRuntime

/-- A port at power-on with its settings (R151): HUNT, waiting for mark, every counter 0. -/
def bootPort (settings : PortSettings) : Port where
  settings := settings
  receiver := .hunt
  waitMark := true
  gapTimer := none
  sampler := none
  idleCount := 0
  lineIdle := false
  spaceRun := 0
  errorRun := 0
  polaritySuspect := false
  counters := { framing := 0, breaks := 0, noise := 0, crc := 0, length := 0, gap := 0, address := 0,
                collision := 0, lineFault := 0, restart := 0, trunkFull := 0 }
  tx := none

/-- The contact and trip-line block at power-on (R120). -/
def bootContacts : ContactBlock where
  inputs := List.replicate 16 { debounced := .opened, run := 0 }
  ticks := 0
  settled := false
  driven := false
  senseHigh := true
  senseRun := 0
  recognition := .clear
  releaseTimer := none

/-- The notice pending state at power-on (R183), the moderation time as passed. -/
def bootNotice (coils : List Mark) (fallbackChange : Mark) : Notice where
  coils := coils
  urgent := .clear
  contactChange := .clear
  plantTripEvent := .clear
  actuatorLost := .clear
  portRestart := .clear
  fallbackChange := fallbackChange
  moderationTicks := 480

/-- The part powered on without an image that passes its check (R188): FALLBACK with its flag, the tables
empty, the defaults of R1, R137 and R176. -/
def startedInFallback (s : State) (straps : BitVec 5) (store : Store) : State where
  pending := s.pending
  freeCount := s.freeCount
  plantClock := 0
  straps := straps
  fallback := true
  coils := List.replicate 16 (bootCoil manualDefaults false)
  points := List.replicate 96 none
  rules := List.replicate 48 none
  records := List.replicate 48 none
  heldLevels := List.replicate 16 0
  relaySet := []
  contacts := bootContacts
  trunk := bootPort { divisor := 23, polarity := .normal }
  branch := bootPort { divisor := 23, polarity := .normal }
  responseTimeout := 50
  relayQueue := []
  trunkOut := { reserved := 0, filled := [] }
  txn := .idle
  fairness := 0
  noResponse := 0
  globals := { contactDebounce := 4, plantTripRelease := 10, moderation := 5, noticesOn := true }
  staged := { trunk := none, branch := none, globals := none, replyLeft := false }
  commit := none
  restartPending := false
  notice := bootNotice (List.replicate 16 .clear) .set
  store := store

/-- R184, R186, R188, R190: without an image that passes its check, or with a write cut short, power-on
gives the part in fallback with all its defaults, whatever it held before; the levels of the straps give its
address; and State.reset is the part so started with an image never written and the straps at 0. That the
queue and the counter of free values stay, and what State.reset holds for straps and image, are the model's
choices (logs 2, 4, 6). -/
def Obligations.PowerOnWithoutImageIsFallback : Prop :=
  (∀ (s : State) (straps : BitVec 5), s.commit ≠ none ∨ (∀ m, ¬ passesWith s.store m) →
    ∃ store : Store, exec (.powerOnReset straps) s = .next (startedInFallback s straps store) ∧
      (s.commit = none → store = s.store) ∧
      (s.commit ≠ none → store = { condition := .failed, contents := none, checkWord := none })) ∧
  (∀ s : State, { State.reset with pending := s.pending, freeCount := s.freeCount } =
    startedInFallback s 0 { condition := .erased, contents := none, checkWord := none })

/-- The pairs that a rule table names, without repeats, in the order in which they first occur (R20). -/
def firstOccurring (rules : List (Option OverrideRule)) (pairs : List (Nat × Nat)) : Prop :=
  pairs.Nodup ∧
  (∀ pair, pair ∈ pairs ↔ ∃ q, some q ∈ rules ∧ (q.station, q.channel) = pair) ∧
  ∀ (i j : Nat) (early late : Nat × Nat), i < j → pairs[i]? = some early → pairs[j]? = some late →
    ∃ (a : Nat) (q : OverrideRule), rules[a]? = some (some q) ∧ (q.station, q.channel) = early ∧
      ∀ (b : Nat) (q' : OverrideRule), rules[b]? = some (some q') → (q'.station, q'.channel) = late → a < b

/-- R20, R36, R78, R105, R183, R184, R187: power-on with an image that passes its check takes tables and
settings from it, the plant clock from 0; the coils whose stored enabled_in_image is set are in STARTUP and
in the pending set, the others OFFLINE; every point starts its runtime; the pairs that the rules name have
one record each, at the indices from 0 in the order in which they first occur, whose constraint is that of
the rules active at those levels, with a PROTECT need raised at 0 under a present one. How each part of the
image is laid out in bytes for its check is a free value (log 7). -/
def Obligations.PowerOnTakesTheImage : Prop :=
  ∀ (s : State) (straps : BitVec 5) (m : ImageContents), s.commit = none → passesWith s.store m →
    ImageShaped m →
    ∃ (t : State) (pairs : List (Nat × Nat)), exec (.powerOnReset straps) s = .next t ∧
      t.straps = straps ∧ t.plantClock = 0 ∧ t.fallback = false ∧ t.store = s.store ∧ t.commit = none ∧
      t.restartPending = false ∧
      t.staged = { trunk := none, branch := none, globals := none, replyLeft := false } ∧ t.relaySet = m.relaySet ∧ t.rules = m.rules ∧
      t.globals = m.globals ∧ t.responseTimeout = m.responseTimeout ∧
      t.trunk = bootPort m.trunk ∧ t.branch = bootPort m.branch ∧
      t.relayQueue = [] ∧ t.trunkOut = { reserved := 0, filled := [] } ∧ t.txn = .idle ∧
      t.contacts = bootContacts ∧
      t.notice = bootNotice (m.coils.map (fun q => if q.2 then .set else .clear)) .clear ∧
      t.points = m.points.map (Option.map (fun p => freshEntry p 0)) ∧
      t.coils = m.coils.map (fun q =>
        let k := bootCoil q.1 q.2
        if q.2 then { k.started with state := .startup } else k) ∧
      t.heldLevels = m.coils.map (fun q => if q.2 then 2 else 0) ∧
      firstOccurring m.rules pairs ∧
      t.records.map (Option.map recordKey) = pairs.map some ++ List.replicate (48 - pairs.length) none ∧
      (∀ r, some r ∈ t.records →
        let constraint := constraintOf (activeRules m.rules t.heldLevels r.station r.channel)
        r = { newRecord r.station r.channel with
              constraint := constraint, need := if constraint.isSome then .protect 0 else .none,
              refreshTimer := constraint.map Constraint.refreshPeriod })

/-- R175: an accepted RESTART is answered ACCEPTED at once and stays pending until that reply leaves. R21,
R37, R79, R106, R120, R151, R168, R183: then it takes effect: every port, the relay and the branch
transaction start anew without a reply to what they held, every point starts its runtime, OFFLINE and
latched coils keep everything and the others are in STARTUP and in the pending set, the actuator records
keep key and cmd_last only and have a PROTECT need raised at this time under a constraint; carried marks go;
contacts and PLANT-TRIP with its release timer stay (where the trip output is as R114 derives it), and so do
settings, rules, counters and the plant clock. With any argument RESTART is MALFORMED. That a coil in
STARTUP takes a new entry time is the model's reading (log 13). -/
def Obligations.RestartWaitsForItsReply : Prop :=
  ∀ (s : State),
    (∀ src, s.takesRequests →
      exec (.restart src []) s = .next { s with
        restartPending := true,
        trunkOut := { s.trunkOut with filled := s.trunkOut.filled ++
          [{ telegram := s.replyTo src 0x0E#8 0x00#8 [], role := .restart }] } }) ∧
    (∀ src args, s.takesRequests → args ≠ [] →
      exec (.restart src args) s = .next (s.replied src 0x0E#8 0x13#8 [])) ∧
    (∀ (x : Transmission) (first : OutTelegram) (rest : List OutTelegram),
      s.coils.length = 16 → s.trunk.tx = some x → x.owner = .listHead →
      s.trunkOut.filled = first :: rest → first.role = .restart →
      ∃ t, exec .trunkTransmissionComplete s = .next t ∧
        t.trunk = { portReleased s.trunk with errorRun := 0 } ∧
        t.branch = { portReleased s.branch with errorRun := 0 } ∧
        t.relayQueue = [] ∧ t.trunkOut = { reserved := 0, filled := [] } ∧ t.txn = .idle ∧
        t.fairness = 0 ∧ t.noResponse = 0 ∧ t.restartPending = false ∧
        t.points = s.points.map (Option.map (fun e => freshEntry e.cfg s.plantClock)) ∧
        (∀ c, t.coil c =
          if (s.coil c).state = .offline ∨ (s.coil c).state = .trip ∨ (s.coil c).state = .lockout
          then s.coil c
          else { (s.coil c).started with
            state := .startup, cause := none, entryTime := s.plantClock, dwell := 0 }) ∧
        t.heldLevels = t.coils.map (fun k => k.state.level) ∧
        t.records.length = s.records.length ∧
        (∀ i : Nat, s.records[i]? = some none → t.records[i]? = some none) ∧
        (∀ (i : Nat) (r : ActuatorRecord), s.records[i]? = some (some r) →
          let constraint := constraintOf (activeRules s.rules t.heldLevels r.station r.channel)
          t.records[i]? = some (some { newRecord r.station r.channel with
            cmdLast := r.cmdLast, constraint := constraint,
            need := if constraint.isSome then .protect s.plantClock else .none,
            refreshTimer := constraint.map Constraint.refreshPeriod })) ∧
        t.notice.moderationTicks = s.notice.moderationTicks ∧
        (∀ c : CoilId, c.val < s.notice.coils.length →
          t.notice.coils[c.val]? = some (
            if ((s.coil c).state ≠ .offline ∧ (s.coil c).state ≠ .trip ∧ (s.coil c).state ≠ .lockout) ∨
                s.notice.coils[c.val]? ≠ some .clear then .set else .clear)) ∧
        t.contacts.inputs = s.contacts.inputs ∧ t.contacts.settled = s.contacts.settled ∧
        (s.contacts.driven = s.wantsDrive → t.contacts = s.contacts ∧
          t.notice = { noticeMarks s.notice (fun m => if m = .carried then .set else m) with
            coils := t.notice.coils }) ∧
        t.plantClock = s.plantClock ∧ t.straps = s.straps ∧ t.fallback = s.fallback ∧
        t.rules = s.rules ∧ t.relaySet = s.relaySet ∧ t.globals = s.globals ∧ t.staged = s.staged ∧
        t.responseTimeout = s.responseTimeout ∧ t.store = s.store)

/-! ### Actuator overrides (chapter 5) -/

/-- The need of a record that a constraint binds (R86, R96): NONE when the acknowledged value is the one
the constraint gives, else PROTECT with the raising time kept. -/
def boundNeed (k : Constraint) (r : ActuatorRecord) (acked : Option Int) (clock : Nat) : Need :=
  if acked = some (k.out r.cmdLast) then .none
  else match r.need with
    | .protect since => .protect since
    | _ => .protect clock

/-- R82: the active rules of a pair are those of the table that name it and whose level the held level of
their coil reaches; R58 gives the levels of the states. R83, R84: the constraint of a non-empty set of
active rules: LO is the greatest value of its FLOOR and FORCE rules and 0, HI the least of its CEILING and
FORCE rules and 1000; CONFLICT, floor present, the refresh period, and restore asked. No rules give no
constraint, and the order of the rules plays no part. The value given to an actuator is the command, first
clamped into 0 to 1000, raised to LO or lowered to HI; LO where LO is above HI; LO or HI without a command.
Of rules with values of 0 to 1000 it lies within 0 to 1000. R85 to R87, R89: a recomputation stores the
constraint of the active rules, starts the refresh timer with its period or stops it, and sets the need,
NONE or PROTECT under a constraint, RESTORE, NONE or the one that stood without one; nothing else
changes. -/
def Obligations.ConstraintAndItsValue : Prop :=
  (∀ (rules : List (Option OverrideRule)) (levels : List Nat) (station channel : Nat) (q : OverrideRule),
    q ∈ activeRules rules levels station channel ↔
      some q ∈ rules ∧ q.station = station ∧ q.channel = channel ∧
      (match q.level with | .w => 1 | .g => 2 | .t => 3) ≤ levels.getD q.coil.val 0) ∧
  [CoilState.offline, .normal, .watch, .startup, .guard, .trip, .lockout].map CoilState.level =
    [0, 0, 1, 2, 2, 3, 3] ∧
  (∀ active : List OverrideRule, constraintOf active = none ↔ active = []) ∧
  (∀ (active : List OverrideRule) (k : Constraint), constraintOf active = some k →
    (∀ r ∈ active, r.mode ≠ .ceiling → r.value ≤ k.lo) ∧ 0 ≤ k.lo ∧
    (k.lo = 0 ∨ ∃ r ∈ active, r.mode ≠ .ceiling ∧ r.value = k.lo) ∧
    (∀ r ∈ active, r.mode ≠ .floor → k.hi ≤ r.value) ∧ k.hi ≤ 1000 ∧
    (k.hi = 1000 ∨ ∃ r ∈ active, r.mode ≠ .floor ∧ r.value = k.hi) ∧
    (k.conflict = true ↔ k.hi < k.lo) ∧
    (k.floorPresent = true ↔ ∃ r ∈ active, r.mode ≠ .ceiling) ∧
    (∀ r ∈ active, k.refreshPeriod ≤ r.refresh) ∧ (∃ r ∈ active, r.refresh = k.refreshPeriod) ∧
    (k.restoreAsked = true ↔ ∃ r ∈ active, r.restore = true)) ∧
  (∀ a b : List OverrideRule, a.Perm b → constraintOf a = constraintOf b) ∧
  (∀ (k : Constraint) (cmd : Int),
    (k.hi < k.lo → k.out (some cmd) = k.lo) ∧
    (k.lo ≤ k.hi → within 0 1000 cmd < k.lo → k.out (some cmd) = k.lo) ∧
    (k.lo ≤ k.hi → k.hi < within 0 1000 cmd → k.out (some cmd) = k.hi) ∧
    (k.lo ≤ within 0 1000 cmd → within 0 1000 cmd ≤ k.hi → k.out (some cmd) = within 0 1000 cmd)) ∧
  (∀ k : Constraint, k.out none = if k.floorPresent then k.lo else k.hi) ∧
  (∀ (active : List OverrideRule) (k : Constraint) (cmd : Option Int), constraintOf active = some k →
    (∀ r ∈ active, 0 ≤ r.value ∧ r.value ≤ 1000) → 0 ≤ k.out cmd ∧ k.out cmd ≤ 1000) ∧
  (∀ (rules : List (Option OverrideRule)) (levels : List Nat) (clock : Nat) (r : ActuatorRecord),
    let after := recomputeRecord rules levels clock r
    let constraint := constraintOf (activeRules rules levels r.station r.channel)
    let restores := ∃ b v, r.constraint = some b ∧ b.restoreAsked = true ∧ r.cmdLast = some v ∧
      r.ackedValue ≠ some v
    after = { r with constraint := constraint, need := after.need,
                     refreshTimer := constraint.map Constraint.refreshPeriod } ∧
    (∀ k, constraint = some k → after.need = boundNeed k r r.ackedValue clock) ∧
    (constraint = none → restores → after.need = .restore clock) ∧
    (constraint = none → r.constraint ≠ none → ¬ restores → after.need = .none) ∧
    (constraint = none → r.constraint = none → after.need = r.need))

/-- R95 to R98: an APPLIED item makes its value the acknowledged value, MISMATCH by the value sent, miss
count 0 and LOST clear; a present constraint makes the need NONE or PROTECT, under an absent one an echo of
cmd_last ends RESTORE; a mismatch delays a PROTECT or RESTORE need by 2 s and nothing else does. That the
retry time has no upper bound is the model's choice (log 26). -/
def Obligations.EchoIsTakenByItsRecord : Prop :=
  ∀ (r : ActuatorRecord) (clock : Nat) (echo : Int),
    let after := r.takeEcho clock echo
    let mismatch := ∃ v, r.sentValue = some v ∧ v ≠ echo
    after.ackedValue = some echo ∧ (after.mismatch = true ↔ mismatch) ∧ after.missCount = 0 ∧
    after.lost = false ∧ after.station = r.station ∧ after.channel = r.channel ∧
    after.constraint = r.constraint ∧ after.cmdLast = r.cmdLast ∧ after.sentValue = r.sentValue ∧
    after.refreshTimer = r.refreshTimer ∧
    (∀ k, r.constraint = some k → after.need = boundNeed k r (some echo) clock) ∧
    (∀ t, r.constraint = none → r.need = .restore t →
      after.need = if r.cmdLast = some echo then .none else .restore t) ∧
    (r.constraint = none → (∀ t, r.need ≠ .restore t) → after.need = r.need) ∧
    (mismatch → ((∃ t, after.need = .protect t) ∨ ∃ t, after.need = .restore t) →
      after.retryNotBefore = some (clock + 2)) ∧
    (¬ mismatch ∨ after.need = .none ∨ (∃ t, after.need = .refresh t) → after.retryNotBefore = none)

/-! ### The grant (section 9.5) -/

/-- The branch arbiter may grant (R158). -/
def grantOpen (s : State) : Prop := s.txn = .idle ∧ s.branch.lineIdle = true ∧ s.branch.tx = none

/-- The state after a transaction has begun with a request (R141, R159 to R161, R167). -/
def afterGrant (s : State) (request : Telegram) (origin : TxnOrigin) (fairness : Nat) : State :=
  { s with
    fairness := fairness,
    noResponse := if s.noResponse = 3 then 0 else s.noResponse,
    txn := .outstanding (if s.noResponse = 3 then .brk else .sending)
      { request := request, origin := origin, timeout := s.responseTimeout },
    branch := { portReleased s.branch with
      tx := some (transmissionOf request.bytes (decide (s.noResponse = 3)) .branchRequest) } }

/-- A record offers a need of a kind (R88): no retry time stands before the clock. -/
def offersNeed (s : State) (kind : Need → Prop) (r : ActuatorRecord) : Prop :=
  kind r.need ∧ ∀ t, r.retryNotBefore = some t → t ≤ s.plantClock

/-- PROTECT (R88). -/
def isProtectNeed (n : Need) : Prop := ∃ t, n = .protect t

/-- RESTORE or REFRESH (R88). -/
def isHousekeepingNeed (n : Need) : Prop := (∃ t, n = .restore t) ∨ ∃ t, n = .refresh t

/-- The record at an index is the oldest that offers a need of a kind: earliest raising time, then lowest
index (R159). -/
def oldestOffer (s : State) (kind : Need → Prop) (i : Nat) (r : ActuatorRecord) : Prop :=
  s.records[i]? = some (some r) ∧ offersNeed s kind r ∧
  ∀ (j : Nat) (q : ActuatorRecord), s.records[j]? = some (some q) → offersNeed s kind q →
    r.need.since < q.need.since ∨ (r.need.since = q.need.since ∧ i ≤ j)

/-- The state after the grant of a record's own SET (R93): one item, its value by the need; sent_value. -/
def afterOwnGrant (s : State) (r : ActuatorRecord) : State :=
  let value (x : ActuatorRecord) : Int :=
    match x.need, x.constraint with
    | .restore _, _ => x.cmdLast.getD 0
    | _, some k => k.out x.cmdLast
    | _, none => x.cmdLast.getD 0
  afterGrant { s with records := s.records.map (Option.map (fun x =>
      if x.station = r.station ∧ x.channel = r.channel then { x with sentValue := some (value x) } else x)) }
    { dest := BitVec.ofNat 8 r.station, src := s.ownAddress, kind := 0x03#8,
      payload := BitVec.ofNat 8 r.channel :: be16s (value r) }
    (.ownSet r.station r.channel true) (min 3 (s.fairness + 1))

/-- R88, R93, R159, R160: at a grant opportunity the oldest PROTECT need offered is granted before a relay
entry, unless three grants have passed over a waiting entry; the oldest RESTORE or REFRESH need only when
neither PROTECT nor the relay has anything. A record that obeys R86 sends a value within 0 to 1000. That a
grant happens at its command, and that raising times are compared as numbers, are the model's choices (logs
18, 26). That a grant happens at its command is the model's choice (log 18). -/
def Obligations.GrantOfAnOwnSet : Prop :=
  ∀ (s : State) (i : Nat) (r : ActuatorRecord), grantOpen s →
    (oldestOffer s isProtectNeed i r → s.relayQueue = [] ∨ s.fairness ≠ 3 →
      exec .branchGrant s = .next (afterOwnGrant s r)) ∧
    ((∀ q, some q ∈ s.records → ¬ offersNeed s isProtectNeed q) → s.relayQueue = [] →
      oldestOffer s isHousekeepingNeed i r → exec .branchGrant s = .next (afterOwnGrant s r)) ∧
    (r.Law → r.need ≠ .none → 0 ≤ r.ownValue ∧ r.ownValue ≤ 1000)

/-- R90 to R92, R153, R159, R160, R164: the head of the relay queue is granted when no PROTECT need is
offered, or three grants have passed it over; a READ leaves as received. The items of a SET are taken in
payload order, each under the records that the items before it left. An item leaves with the value as
received where there is no record or no constraint, else with the value its constraint gives to the command;
its record captures the command clamped into 0 to 1000 and the value as sent, and nothing else changes. That
a grant happens at its command is the model's choice (log 18). -/
def Obligations.GrantOfARelayedRequest : Prop :=
  (∀ (s : State) (t : Telegram) (rest : List Telegram), grantOpen s → s.relayQueue = t :: rest →
    s.fairness = 3 ∨ (∀ q, some q ∈ s.records → ¬ offersNeed s isProtectNeed q) →
    (t.code ≠ 3 →
      exec .branchGrant s = .next (afterGrant { s with relayQueue := rest } t (.relayed false) 0)) ∧
    (t.code = 3 →
      let left := rewriteItems t.dest s.records (valueItems t.payload)
      exec .branchGrant s = .next (afterGrant { s with relayQueue := rest, records := left.1 }
        { t with payload := valueBytes left.2 }
        (.relayed (decide (left.2 ≠ valueItems t.payload))) 0))) ∧
  (∀ (dest : Byte) (records : List (Option ActuatorRecord)), rewriteItems dest records [] = (records, [])) ∧
  (∀ (dest : Byte) (records : List (Option ActuatorRecord)) (item : Byte × Int) (rest : List (Byte × Int)),
    let first := rewriteItems dest records [item]
    let later := rewriteItems dest first.1 rest
    rewriteItems dest records (item :: rest) = (later.1, first.2 ++ later.2)) ∧
  (∀ (dest channel : Byte) (value : Int) (records : List (Option ActuatorRecord)),
    let sent (r : ActuatorRecord) : Int := match r.constraint with
      | none => value
      | some k => k.out (some (within 0 1000 value))
    (recordFor records dest.toNat channel.toNat = none →
      rewriteItems dest records [(channel, value)] = (records, [(channel, value)])) ∧
    (∀ r, recordFor records dest.toNat channel.toNat = some r →
      rewriteItems dest records [(channel, value)] =
        (records.map (Option.map (fun x =>
          if x.station = dest.toNat ∧ x.channel = channel.toNat
          then { x with cmdLast := some (within 0 1000 value), sentValue := some (sent x) } else x)),
          [(channel, sent r)]))) ∧
  (∀ (records : List (Option ActuatorRecord)) (station channel : Nat),
    (recordFor records station channel = none ↔
      ∀ r, some r ∈ records → ¬ (r.station = station ∧ r.channel = channel)) ∧
    (∀ r, recordFor records station channel = some r →
      some r ∈ records ∧ r.station = station ∧ r.channel = channel))

/-- An entry at an index is the one whose last sample is oldest among those with a raised poll need: an
absent one is older than every present one, and the lowest index comes first among equals (R31). -/
def oldestPollNeed (s : State) (i : Nat) (e : PointEntry) : Prop :=
  s.points[i]? = some (some e) ∧ e.rt.pollNeed = true ∧
  ∀ (j : Nat) (q : PointEntry), s.points[j]? = some (some q) → q.rt.pollNeed = true →
    match e.rt.lastSample, q.rt.lastSample with
    | none, none => i ≤ j
    | none, some _ => True
    | some _, none => False
    | some a, some b => a < b ∨ (a = b ∧ i ≤ j)

/-- The entries of a station with raised poll needs, ascending. -/
def dueAt (station : Nat) (points : List (Option PointEntry)) : List PointEntry :=
  (points.filterMap id).filter (fun e => e.rt.pollNeed && e.cfg.station == station)

/-- R31, R32, R159: with no SET to send and the relay empty, a poll of the station whose point was sampled
longest ago: a READ of up to eight of its due channels in ascending point index, each need consumed and each
poll timer started again. That a grant happens at its command, and that a command with nothing offered
leaves the state as it is, are the model's choices (logs 18, 9), and so are a due time without an upper
bound and sample times compared as numbers (log 26). -/
def Obligations.GrantOfAPoll : Prop :=
  ∀ (s : State), grantOpen s → s.relayQueue = [] →
    (∀ q, some q ∈ s.records → ¬ offersNeed s isProtectNeed q ∧ ¬ offersNeed s isHousekeepingNeed q) →
    (∀ (i : Nat) (e : PointEntry), oldestPollNeed s i e →
      ∃ points : List (Option PointEntry),
        exec .branchGrant s = .next (afterGrant { s with points := points }
          { dest := BitVec.ofNat 8 e.cfg.station, src := s.ownAddress, kind := 0x01#8,
            payload := ((dueAt e.cfg.station s.points).take 8).map
              (fun x => BitVec.ofNat 8 x.cfg.channel) } .ownRead (min 3 (s.fairness + 1))) ∧
        points.length = s.points.length ∧
        (∀ j : Nat, s.points[j]? = some none → points[j]? = some none) ∧
        ∀ (j : Nat) (x : PointEntry), s.points[j]? = some (some x) →
          points[j]? = some (some (
            if x.rt.pollNeed = true ∧ x.cfg.station = e.cfg.station ∧
                (dueAt e.cfg.station (s.points.take j)).length < 8
            then { x with rt := { x.rt with
              pollNeed := false, lastPoll := some s.plantClock,
              pollDue := if x.cfg.pollInterval = 0 then none
                else some (s.plantClock + x.cfg.pollInterval) } }
            else x))) ∧
    ((∀ e, some e ∈ s.points → e.rt.pollNeed = false) → exec .branchGrant s = .next s)

/-! ### Contacts and the plant trip line (chapter 6) -/

/-- The coil record names a contact input, and the state is the cold one by its polarity (R67, R113). -/
def turnsCold (k : Coil) (i : Fin 16) (new : ContactState) : Prop :=
  ∃ r, k.cfg.contact = some r ∧ r.input = i ∧
    new = (match r.polarity with | .openCold => .opened | .closedCold => .closed)

/-- R67, R112, R114: a debounced contact change gives its input the new state, trips with cause CONTACT
every coil in service and not latched whose record makes it cold, and takes a coil in TRIP back to an
auto-reset timer of 0; the contact change flag is set and the trip output derived anew. That a trip time
above the clock counts as within lockout_window is the model's choice (log 26). -/
def Obligations.ContactChangeTripsItsCoils : Prop :=
  ∀ (s : State) (i : Fin 16) (new : ContactState), s.coils.length = 16 → s.heldLevels.length = 16 →
    s.contacts.inputs.length = 16 → s.contacts.settled = true →
    (s.contacts.inputs[i.val]?).map ContactInput.debounced ≠ some new →
    ∃ t, exec (.debouncedContactChange i new) s = .next t ∧ sameOutsideProtection s t ∧
      t.contacts.inputs = s.contacts.inputs.set i.val { debounced := new, run := 0 } ∧
      t.contacts.settled = true ∧ t.contacts.ticks = s.contacts.ticks ∧
      t.notice.contactChange = .set ∧ t.contacts.driven = t.wantsDrive ∧
      (∀ c : CoilId,
        let k := (s.coil c).tripRecorded s.plantClock
        (turnsCold (s.coil c) i new → unlatched (s.coil c).state →
          t.coil c = { k with state := (s.coil c).tripState s.plantClock, cause := some .contact,
                              entryTime := s.plantClock, dwell := 0 } ∧
          t.heldLevels[c.val]? = some 3 ∧ t.notice.urgent = .set ∧
          (c.val < s.notice.coils.length → t.notice.coils[c.val]? = some .set)) ∧
        (turnsCold (s.coil c) i new → (s.coil c).state = .trip →
          t.coil c = { s.coil c with autoResetTimer := 0 }) ∧
        (¬ turnsCold (s.coil c) i new ∨ (s.coil c).state = .offline ∨ (s.coil c).state = .lockout →
          t.coil c = s.coil c))

/-- The block after a sense change while the part does not drive (R115, R116): PLANT-TRIP goes CLEAR to
ASSERTED at LOW, ASSERTED to RELEASING at HIGH with its release timer full, and RELEASING back to
ASSERTED at LOW, the timer stopped. -/
def senseTaken (b : ContactBlock) (period : Nat) (high : Bool) : ContactBlock :=
  let sensed := { b with senseHigh := high, senseRun := 0 }
  if high = false ∧ b.recognition = .clear then { sensed with recognition := .asserted }
  else if high = false ∧ b.recognition = .releasing then
    { sensed with recognition := .asserted, releaseTimer := none }
  else if high = true ∧ b.recognition = .asserted then
    { sensed with recognition := .releasing, releaseTimer := some (8 * period) }
  else sensed

/-- R110, R114 to R119: the settling makes the contacts readable and derives the trip output anew; a sense
change moves PLANT-TRIP while the part does not drive the line, and only the sense while it does; the
release timer's expiry ends RELEASING. Each change of PLANT-TRIP sets the plant-trip event. The events are
taken at the sender's word (logs 9, 17). -/
def Obligations.TripLineEvents : Prop :=
  ∀ (s : State),
    (s.contacts.settled = false →
      let block := { s.contacts with settled := true }
      let want := s.coils.any (fun k => k.cfg.drivesTripLine && (k.state == .trip || k.state == .lockout)) ||
        (s.fallback && block.inputs.any (fun x => x.debounced == .opened))
      let now := block.driveAfter s.globals.plantTripRelease want
      exec .contactSettling s = .next { s with
        contacts := now,
        notice := { s.notice with
          plantTripEvent := plantTripEventAfter s.contacts now s.notice.plantTripEvent } }) ∧
    (∀ high, s.contacts.senseHigh ≠ high → s.contacts.driven = false →
      let now := senseTaken s.contacts s.globals.plantTripRelease high
      exec (.debouncedSenseChange high) s = .next { s with
        contacts := now,
        notice := { s.notice with
          plantTripEvent := plantTripEventAfter s.contacts now s.notice.plantTripEvent } }) ∧
    (∀ high, s.contacts.senseHigh ≠ high → s.contacts.driven = true →
      exec (.debouncedSenseChange high) s = .next { s with
        contacts := { s.contacts with senseHigh := high, senseRun := 0 } }) ∧
    (∀ ticks, s.contacts.recognition = .releasing → s.contacts.driven = false →
      s.contacts.releaseTimer = some ticks →
      exec .releaseTimerExpiry s = .next { s with
        contacts := { s.contacts with recognition := .clear, releaseTimer := none },
        notice := { s.notice with plantTripEvent := .set } }) ∧
    (s.contacts.driven = true → exec .releaseTimerExpiry s = .next s)

/-- The sample of contact input `i` (R109). -/
def pinSample (pins : BitVec 16) (i : Nat) : ContactState := if pins.getLsbD i then .opened else .closed

/-- R109, R110, R115, R117, R180: a tick compares every contact input on its own with its debounced state
and the sense sample with the debounced sense, settles the block after contact_debounce ticks, counts the
release timer while the part does not drive, and counts the moderation time; after a completed contact
debounce or the settling the trip output is as R114 derives it. When no contact input completes its
debounce, a completed debounce of the sense is the debounced sense change, the settling tick is the
settling, and a release timer with nothing left expires; an input that completes its debounce hands on the
contact change. The order of these within a tick is the model's choice (log 8). -/
def Obligations.TickComparesEveryInput : Prop :=
  ∀ (s : State) (pins : BitVec 16) (high : Bool), s.contacts.inputs.length = 16 →
    let d := s.globals.contactDebounce
    let compared := s.contacts.inputs.mapIdx (fun i x =>
      if pinSample pins i = x.debounced then { x with run := 0 }
      else if x.run + 1 < d then { x with run := x.run + 1 }
      else { debounced := pinSample pins i, run := 0 })
    let counted := { s.notice with moderationTicks := min 480 (s.notice.moderationTicks + 1) }
    let settles := s.contacts.settled = false ∧ d ≤ s.contacts.ticks + 1
    let senseCompletes := high ≠ s.contacts.senseHigh ∧ d ≤ s.contacts.senseRun + 1
    let sameStates := compared.map ContactInput.debounced = s.contacts.inputs.map ContactInput.debounced
    let quiet := s.contacts.settled = true ∧ high = s.contacts.senseHigh
    let sampled : State := { s with
      contacts := { s.contacts with
        inputs := compared,
        ticks := if s.contacts.settled then s.contacts.ticks else s.contacts.ticks + 1,
        senseRun :=
          if high = s.contacts.senseHigh then 0
          else if s.contacts.senseRun + 1 < d then s.contacts.senseRun + 1 else 0,
        releaseTimer := if s.contacts.driven then s.contacts.releaseTimer
          else s.contacts.releaseTimer.map (· - 1) },
      notice := counted }
    (∃ t, exec (.tick pins high) s = .next t ∧ sameOutsideProtection s t ∧
      t.contacts.inputs = compared ∧
      (t.contacts.settled = true ↔ s.contacts.settled = true ∨ d ≤ s.contacts.ticks + 1) ∧
      t.notice.moderationTicks = min 480 (s.notice.moderationTicks + 1) ∧
      (settles ∨ ¬ sameStates → t.contacts.driven = t.wantsDrive)) ∧
    (sameStates → ∃ u v : State,
      (if senseCompletes then exec (.debouncedSenseChange high) sampled = .next u else u = sampled) ∧
      (if settles then exec .contactSettling u = .next v else v = u) ∧
      (if s.contacts.driven = false ∧ v.contacts.releaseTimer = some 0
        then exec (.tick pins high) s = exec .releaseTimerExpiry v
        else exec (.tick pins high) s = .next v)) ∧
    (quiet → sameStates → (s.contacts.driven = true ∨ ∀ n, s.contacts.releaseTimer = some n → 1 < n) →
      exec (.tick pins high) s = .next sampled) ∧
    (quiet → ∀ (i : Fin 16) (x : ContactInput), s.contacts.inputs[i.val]? = some x →
      x.debounced ≠ pinSample pins i.val → d ≤ x.run + 1 → s.contacts.releaseTimer = none →
      (∀ j y, j ≠ i.val → s.contacts.inputs[j]? = some y →
        pinSample pins j = y.debounced ∨ y.run + 1 < d) →
      exec (.tick pins high) s =
        exec (.debouncedContactChange i (pinSample pins i.val)) { s with
          contacts := { s.contacts with inputs := compared.set i.val x, senseRun := 0 },
          notice := counted })

/-! ### Characters from samples (R122) -/

/-- The three samples agree. -/
abbrev sameLevels (a b c : Level) : Prop := a = b ∧ b = c

/-- R122, R140: while a character is being sampled, the eighth and ninth samples of a bit are kept and the
tenth decides it by majority; a start bit decided at mark was none (the gap timer after one is left open,
log 10); the decision of the stop bit is the taking of the character, its data bits least significant first,
then its mark bit, NOISE when the middle samples of a bit disagreed. A sample at space sets the idle count
to 0 and ends the line idle condition; a sample at mark then counts for the idle line, the 176th as the
line-idle event. That the character comes before the idle count at one sample is the model's choice (log
31). -/
def Obligations.SamplesDecideBits : Prop :=
  ∀ (s : State) (p : PortId) (c : CharSampler) (l : Level), (s.port p).tx = none →
    (s.port p).waitMark = false → (s.port p).sampler = some c →
    (p = .branch → ∀ n, s.txn ≠ .turnaround n) →
    let heard : Port := match l with
      | .space => { heardLevel (s.port p) .space with idleCount := 0, lineIdle := false }
      | .mark => heardLevel (s.port p) .mark
    let counted (u : State) : State := match l with
      | .space => u
      | .mark => idleCounted u p
    let level := twoOfThree c.eighth c.ninth l
    let noise := c.noise || decide (¬ sameLevels c.eighth c.ninth l)
    (c.index % 16 ≠ 9 →
      exec (sampleAt l p) s = .next (counted (s.setPort p { heard with sampler := some { c with
        index := c.index + 1,
        eighth := if c.index % 16 = 7 then l else c.eighth,
        ninth := if c.index % 16 = 8 then l else c.ninth } }))) ∧
    (c.index % 16 = 9 → c.bits = [] → level = .mark → c.gapLeft = none →
      exec (sampleAt l p) s = .next (counted (s.setPort p { heard with sampler := none }))) ∧
    (c.index % 16 = 9 → c.bits = [] → level = .mark → c.gapLeft ≠ none → ∃ gap : Option Nat,
      exec (sampleAt l p) s =
        .next (counted (s.setPort p { heard with sampler := none, gapTimer := gap }))) ∧
    (c.index % 16 = 9 → c.bits = [] ∧ level = .space ∨ (c.bits ≠ [] ∧ c.bits.length ≠ 10) →
      exec (sampleAt l p) s = .next (counted (s.setPort p { heard with sampler := some { c with
        index := c.index + 1, bits := c.bits ++ [decide (level = .mark)], noise := noise } }))) ∧
    (c.index % 16 = 9 → c.bits.length = 10 → ∃ (ch : LineChar) (u : State),
      exec (.characterReceived p ch) (s.setPort p heard) = .next u ∧
      exec (sampleAt l p) s = .next (counted u) ∧
      (∀ j, j < 8 → c.bits[j + 1]? = some (ch.data.getLsbD j)) ∧ c.bits[9]? = some ch.markBit ∧
      ch.stopMark = decide (level = .mark) ∧ ch.noise = noise)

/-! ### Laws that every step keeps -/

/-- What holds in a state and is kept by every step from it. -/
def keptByEveryStep (law : State → Prop) : Prop := ∀ s t : State, law s → step s = .next t → law t

/-- R6, R8, R11, R14, R15, R20: no table holds a key twice, no two points have the same duty, and an
actuator record exists exactly while a rule names its pair; the tables keep their sizes. -/
def Obligations.KeysLawKeptByEveryStep : Prop := keptByEveryStep State.KeysLaw

/-- R153 to R155, R157, R173, R175: every reserved place belongs to a queued or outstanding relayed request
or to the COMMIT in flight, and the limits of the relay queue and the trunk output list hold. -/
def Obligations.PlacesLawKeptByEveryStep : Prop := keptByEveryStep State.PlacesLaw

/-- R82, R83, R85, R114: the override unit holds the level of every coil, every record's constraint is that
of the rules active at these levels, and the plant trip output is driven exactly when R114 says. -/
def Obligations.OverrideAndTripLineKeptByEveryStep : Prop :=
  keptByEveryStep (fun s => s.ShapeLaw ∧ s.OverrideLaw ∧ s.TripLineLaw)

/-- R18, R19, R39, R50, R56, R58, R59: the runtime of every coil record stays within its bounds, and its
cause is one its state may carry. -/
def Obligations.CoilsLawKeptByEveryStep : Prop :=
  keptByEveryStep State.CoilsLaw

/-- R1, R6, R7, R11, R14, R16, R86, R87, R89, R184, R186: coil configurations, point map entries, rules and
the relay set stay in range in the tables, in the image and in what a COMMIT writes, a valid image passes
its check, and bounds, captured commands and needs of every actuator record stay in range. -/
def Obligations.RecordsLawKeptByEveryStep : Prop := keptByEveryStep State.RecordsLaw

/-- The laws that every step keeps (keys, places, overrides and trip line, coils, records) hold right after
reset (R188). What the manual leaves open there is the model's choice (logs 4, 6). -/
def Obligations.LawsHoldAtReset : Prop :=
  State.reset.KeysLaw ∧ State.reset.PlacesLaw ∧ State.reset.OverrideLaw ∧ State.reset.TripLineLaw ∧
  State.reset.CoilsLaw ∧ State.reset.RecordsLaw
end

