-- ==== Sys2Proof/Laws/State.lean ====
section
/-! SUPPORT. What each named update of the state leaves and sets: one lemma per field per update. -/

namespace Sys2Proof.Machine

variable (s : State)

@[simp] theorem State.withPending_pending (x : List Instr) : (s.withPending x).pending = x := rfl
@[simp] theorem State.withPending_freeCount (x : List Instr) : (s.withPending x).freeCount = s.freeCount := rfl
@[simp] theorem State.withPending_plantClock (x : List Instr) : (s.withPending x).plantClock = s.plantClock := rfl
@[simp] theorem State.withPending_straps (x : List Instr) : (s.withPending x).straps = s.straps := rfl
@[simp] theorem State.withPending_fallback (x : List Instr) : (s.withPending x).fallback = s.fallback := rfl
@[simp] theorem State.withPending_coils (x : List Instr) : (s.withPending x).coils = s.coils := rfl
@[simp] theorem State.withPending_points (x : List Instr) : (s.withPending x).points = s.points := rfl
@[simp] theorem State.withPending_rules (x : List Instr) : (s.withPending x).rules = s.rules := rfl
@[simp] theorem State.withPending_records (x : List Instr) : (s.withPending x).records = s.records := rfl
@[simp] theorem State.withPending_heldLevels (x : List Instr) : (s.withPending x).heldLevels = s.heldLevels := rfl
@[simp] theorem State.withPending_relaySet (x : List Instr) : (s.withPending x).relaySet = s.relaySet := rfl
@[simp] theorem State.withPending_contacts (x : List Instr) : (s.withPending x).contacts = s.contacts := rfl
@[simp] theorem State.withPending_trunk (x : List Instr) : (s.withPending x).trunk = s.trunk := rfl
@[simp] theorem State.withPending_branch (x : List Instr) : (s.withPending x).branch = s.branch := rfl
@[simp] theorem State.withPending_responseTimeout (x : List Instr) : (s.withPending x).responseTimeout = s.responseTimeout := rfl
@[simp] theorem State.withPending_relayQueue (x : List Instr) : (s.withPending x).relayQueue = s.relayQueue := rfl
@[simp] theorem State.withPending_trunkOut (x : List Instr) : (s.withPending x).trunkOut = s.trunkOut := rfl
@[simp] theorem State.withPending_txn (x : List Instr) : (s.withPending x).txn = s.txn := rfl
@[simp] theorem State.withPending_fairness (x : List Instr) : (s.withPending x).fairness = s.fairness := rfl
@[simp] theorem State.withPending_noResponse (x : List Instr) : (s.withPending x).noResponse = s.noResponse := rfl
@[simp] theorem State.withPending_globals (x : List Instr) : (s.withPending x).globals = s.globals := rfl
@[simp] theorem State.withPending_staged (x : List Instr) : (s.withPending x).staged = s.staged := rfl
@[simp] theorem State.withPending_commit (x : List Instr) : (s.withPending x).commit = s.commit := rfl
@[simp] theorem State.withPending_restartPending (x : List Instr) : (s.withPending x).restartPending = s.restartPending := rfl
@[simp] theorem State.withPending_notice (x : List Instr) : (s.withPending x).notice = s.notice := rfl
@[simp] theorem State.withPending_store (x : List Instr) : (s.withPending x).store = s.store := rfl

@[simp] theorem State.withFreeCount_pending (x : Nat) : (s.withFreeCount x).pending = s.pending := rfl
@[simp] theorem State.withFreeCount_freeCount (x : Nat) : (s.withFreeCount x).freeCount = x := rfl
@[simp] theorem State.withFreeCount_plantClock (x : Nat) : (s.withFreeCount x).plantClock = s.plantClock := rfl
@[simp] theorem State.withFreeCount_straps (x : Nat) : (s.withFreeCount x).straps = s.straps := rfl
@[simp] theorem State.withFreeCount_fallback (x : Nat) : (s.withFreeCount x).fallback = s.fallback := rfl
@[simp] theorem State.withFreeCount_coils (x : Nat) : (s.withFreeCount x).coils = s.coils := rfl
@[simp] theorem State.withFreeCount_points (x : Nat) : (s.withFreeCount x).points = s.points := rfl
@[simp] theorem State.withFreeCount_rules (x : Nat) : (s.withFreeCount x).rules = s.rules := rfl
@[simp] theorem State.withFreeCount_records (x : Nat) : (s.withFreeCount x).records = s.records := rfl
@[simp] theorem State.withFreeCount_heldLevels (x : Nat) : (s.withFreeCount x).heldLevels = s.heldLevels := rfl
@[simp] theorem State.withFreeCount_relaySet (x : Nat) : (s.withFreeCount x).relaySet = s.relaySet := rfl
@[simp] theorem State.withFreeCount_contacts (x : Nat) : (s.withFreeCount x).contacts = s.contacts := rfl
@[simp] theorem State.withFreeCount_trunk (x : Nat) : (s.withFreeCount x).trunk = s.trunk := rfl
@[simp] theorem State.withFreeCount_branch (x : Nat) : (s.withFreeCount x).branch = s.branch := rfl
@[simp] theorem State.withFreeCount_responseTimeout (x : Nat) : (s.withFreeCount x).responseTimeout = s.responseTimeout := rfl
@[simp] theorem State.withFreeCount_relayQueue (x : Nat) : (s.withFreeCount x).relayQueue = s.relayQueue := rfl
@[simp] theorem State.withFreeCount_trunkOut (x : Nat) : (s.withFreeCount x).trunkOut = s.trunkOut := rfl
@[simp] theorem State.withFreeCount_txn (x : Nat) : (s.withFreeCount x).txn = s.txn := rfl
@[simp] theorem State.withFreeCount_fairness (x : Nat) : (s.withFreeCount x).fairness = s.fairness := rfl
@[simp] theorem State.withFreeCount_noResponse (x : Nat) : (s.withFreeCount x).noResponse = s.noResponse := rfl
@[simp] theorem State.withFreeCount_globals (x : Nat) : (s.withFreeCount x).globals = s.globals := rfl
@[simp] theorem State.withFreeCount_staged (x : Nat) : (s.withFreeCount x).staged = s.staged := rfl
@[simp] theorem State.withFreeCount_commit (x : Nat) : (s.withFreeCount x).commit = s.commit := rfl
@[simp] theorem State.withFreeCount_restartPending (x : Nat) : (s.withFreeCount x).restartPending = s.restartPending := rfl
@[simp] theorem State.withFreeCount_notice (x : Nat) : (s.withFreeCount x).notice = s.notice := rfl
@[simp] theorem State.withFreeCount_store (x : Nat) : (s.withFreeCount x).store = s.store := rfl

@[simp] theorem State.withPlantClock_pending (x : Nat) : (s.withPlantClock x).pending = s.pending := rfl
@[simp] theorem State.withPlantClock_freeCount (x : Nat) : (s.withPlantClock x).freeCount = s.freeCount := rfl
@[simp] theorem State.withPlantClock_plantClock (x : Nat) : (s.withPlantClock x).plantClock = x := rfl
@[simp] theorem State.withPlantClock_straps (x : Nat) : (s.withPlantClock x).straps = s.straps := rfl
@[simp] theorem State.withPlantClock_fallback (x : Nat) : (s.withPlantClock x).fallback = s.fallback := rfl
@[simp] theorem State.withPlantClock_coils (x : Nat) : (s.withPlantClock x).coils = s.coils := rfl
@[simp] theorem State.withPlantClock_points (x : Nat) : (s.withPlantClock x).points = s.points := rfl
@[simp] theorem State.withPlantClock_rules (x : Nat) : (s.withPlantClock x).rules = s.rules := rfl
@[simp] theorem State.withPlantClock_records (x : Nat) : (s.withPlantClock x).records = s.records := rfl
@[simp] theorem State.withPlantClock_heldLevels (x : Nat) : (s.withPlantClock x).heldLevels = s.heldLevels := rfl
@[simp] theorem State.withPlantClock_relaySet (x : Nat) : (s.withPlantClock x).relaySet = s.relaySet := rfl
@[simp] theorem State.withPlantClock_contacts (x : Nat) : (s.withPlantClock x).contacts = s.contacts := rfl
@[simp] theorem State.withPlantClock_trunk (x : Nat) : (s.withPlantClock x).trunk = s.trunk := rfl
@[simp] theorem State.withPlantClock_branch (x : Nat) : (s.withPlantClock x).branch = s.branch := rfl
@[simp] theorem State.withPlantClock_responseTimeout (x : Nat) : (s.withPlantClock x).responseTimeout = s.responseTimeout := rfl
@[simp] theorem State.withPlantClock_relayQueue (x : Nat) : (s.withPlantClock x).relayQueue = s.relayQueue := rfl
@[simp] theorem State.withPlantClock_trunkOut (x : Nat) : (s.withPlantClock x).trunkOut = s.trunkOut := rfl
@[simp] theorem State.withPlantClock_txn (x : Nat) : (s.withPlantClock x).txn = s.txn := rfl
@[simp] theorem State.withPlantClock_fairness (x : Nat) : (s.withPlantClock x).fairness = s.fairness := rfl
@[simp] theorem State.withPlantClock_noResponse (x : Nat) : (s.withPlantClock x).noResponse = s.noResponse := rfl
@[simp] theorem State.withPlantClock_globals (x : Nat) : (s.withPlantClock x).globals = s.globals := rfl
@[simp] theorem State.withPlantClock_staged (x : Nat) : (s.withPlantClock x).staged = s.staged := rfl
@[simp] theorem State.withPlantClock_commit (x : Nat) : (s.withPlantClock x).commit = s.commit := rfl
@[simp] theorem State.withPlantClock_restartPending (x : Nat) : (s.withPlantClock x).restartPending = s.restartPending := rfl
@[simp] theorem State.withPlantClock_notice (x : Nat) : (s.withPlantClock x).notice = s.notice := rfl
@[simp] theorem State.withPlantClock_store (x : Nat) : (s.withPlantClock x).store = s.store := rfl

@[simp] theorem State.withFallback_pending (x : Bool) : (s.withFallback x).pending = s.pending := rfl
@[simp] theorem State.withFallback_freeCount (x : Bool) : (s.withFallback x).freeCount = s.freeCount := rfl
@[simp] theorem State.withFallback_plantClock (x : Bool) : (s.withFallback x).plantClock = s.plantClock := rfl
@[simp] theorem State.withFallback_straps (x : Bool) : (s.withFallback x).straps = s.straps := rfl
@[simp] theorem State.withFallback_fallback (x : Bool) : (s.withFallback x).fallback = x := rfl
@[simp] theorem State.withFallback_coils (x : Bool) : (s.withFallback x).coils = s.coils := rfl
@[simp] theorem State.withFallback_points (x : Bool) : (s.withFallback x).points = s.points := rfl
@[simp] theorem State.withFallback_rules (x : Bool) : (s.withFallback x).rules = s.rules := rfl
@[simp] theorem State.withFallback_records (x : Bool) : (s.withFallback x).records = s.records := rfl
@[simp] theorem State.withFallback_heldLevels (x : Bool) : (s.withFallback x).heldLevels = s.heldLevels := rfl
@[simp] theorem State.withFallback_relaySet (x : Bool) : (s.withFallback x).relaySet = s.relaySet := rfl
@[simp] theorem State.withFallback_contacts (x : Bool) : (s.withFallback x).contacts = s.contacts := rfl
@[simp] theorem State.withFallback_trunk (x : Bool) : (s.withFallback x).trunk = s.trunk := rfl
@[simp] theorem State.withFallback_branch (x : Bool) : (s.withFallback x).branch = s.branch := rfl
@[simp] theorem State.withFallback_responseTimeout (x : Bool) : (s.withFallback x).responseTimeout = s.responseTimeout := rfl
@[simp] theorem State.withFallback_relayQueue (x : Bool) : (s.withFallback x).relayQueue = s.relayQueue := rfl
@[simp] theorem State.withFallback_trunkOut (x : Bool) : (s.withFallback x).trunkOut = s.trunkOut := rfl
@[simp] theorem State.withFallback_txn (x : Bool) : (s.withFallback x).txn = s.txn := rfl
@[simp] theorem State.withFallback_fairness (x : Bool) : (s.withFallback x).fairness = s.fairness := rfl
@[simp] theorem State.withFallback_noResponse (x : Bool) : (s.withFallback x).noResponse = s.noResponse := rfl
@[simp] theorem State.withFallback_globals (x : Bool) : (s.withFallback x).globals = s.globals := rfl
@[simp] theorem State.withFallback_staged (x : Bool) : (s.withFallback x).staged = s.staged := rfl
@[simp] theorem State.withFallback_commit (x : Bool) : (s.withFallback x).commit = s.commit := rfl
@[simp] theorem State.withFallback_restartPending (x : Bool) : (s.withFallback x).restartPending = s.restartPending := rfl
@[simp] theorem State.withFallback_notice (x : Bool) : (s.withFallback x).notice = s.notice := rfl
@[simp] theorem State.withFallback_store (x : Bool) : (s.withFallback x).store = s.store := rfl

@[simp] theorem State.withCoils_pending (x : List Coil) : (s.withCoils x).pending = s.pending := rfl
@[simp] theorem State.withCoils_freeCount (x : List Coil) : (s.withCoils x).freeCount = s.freeCount := rfl
@[simp] theorem State.withCoils_plantClock (x : List Coil) : (s.withCoils x).plantClock = s.plantClock := rfl
@[simp] theorem State.withCoils_straps (x : List Coil) : (s.withCoils x).straps = s.straps := rfl
@[simp] theorem State.withCoils_fallback (x : List Coil) : (s.withCoils x).fallback = s.fallback := rfl
@[simp] theorem State.withCoils_coils (x : List Coil) : (s.withCoils x).coils = x := rfl
@[simp] theorem State.withCoils_points (x : List Coil) : (s.withCoils x).points = s.points := rfl
@[simp] theorem State.withCoils_rules (x : List Coil) : (s.withCoils x).rules = s.rules := rfl
@[simp] theorem State.withCoils_records (x : List Coil) : (s.withCoils x).records = s.records := rfl
@[simp] theorem State.withCoils_heldLevels (x : List Coil) : (s.withCoils x).heldLevels = s.heldLevels := rfl
@[simp] theorem State.withCoils_relaySet (x : List Coil) : (s.withCoils x).relaySet = s.relaySet := rfl
@[simp] theorem State.withCoils_contacts (x : List Coil) : (s.withCoils x).contacts = s.contacts := rfl
@[simp] theorem State.withCoils_trunk (x : List Coil) : (s.withCoils x).trunk = s.trunk := rfl
@[simp] theorem State.withCoils_branch (x : List Coil) : (s.withCoils x).branch = s.branch := rfl
@[simp] theorem State.withCoils_responseTimeout (x : List Coil) : (s.withCoils x).responseTimeout = s.responseTimeout := rfl
@[simp] theorem State.withCoils_relayQueue (x : List Coil) : (s.withCoils x).relayQueue = s.relayQueue := rfl
@[simp] theorem State.withCoils_trunkOut (x : List Coil) : (s.withCoils x).trunkOut = s.trunkOut := rfl
@[simp] theorem State.withCoils_txn (x : List Coil) : (s.withCoils x).txn = s.txn := rfl
@[simp] theorem State.withCoils_fairness (x : List Coil) : (s.withCoils x).fairness = s.fairness := rfl
@[simp] theorem State.withCoils_noResponse (x : List Coil) : (s.withCoils x).noResponse = s.noResponse := rfl
@[simp] theorem State.withCoils_globals (x : List Coil) : (s.withCoils x).globals = s.globals := rfl
@[simp] theorem State.withCoils_staged (x : List Coil) : (s.withCoils x).staged = s.staged := rfl
@[simp] theorem State.withCoils_commit (x : List Coil) : (s.withCoils x).commit = s.commit := rfl
@[simp] theorem State.withCoils_restartPending (x : List Coil) : (s.withCoils x).restartPending = s.restartPending := rfl
@[simp] theorem State.withCoils_notice (x : List Coil) : (s.withCoils x).notice = s.notice := rfl
@[simp] theorem State.withCoils_store (x : List Coil) : (s.withCoils x).store = s.store := rfl

@[simp] theorem State.withPoints_pending (x : List (Option PointEntry)) : (s.withPoints x).pending = s.pending := rfl
@[simp] theorem State.withPoints_freeCount (x : List (Option PointEntry)) : (s.withPoints x).freeCount = s.freeCount := rfl
@[simp] theorem State.withPoints_plantClock (x : List (Option PointEntry)) : (s.withPoints x).plantClock = s.plantClock := rfl
@[simp] theorem State.withPoints_straps (x : List (Option PointEntry)) : (s.withPoints x).straps = s.straps := rfl
@[simp] theorem State.withPoints_fallback (x : List (Option PointEntry)) : (s.withPoints x).fallback = s.fallback := rfl
@[simp] theorem State.withPoints_coils (x : List (Option PointEntry)) : (s.withPoints x).coils = s.coils := rfl
@[simp] theorem State.withPoints_points (x : List (Option PointEntry)) : (s.withPoints x).points = x := rfl
@[simp] theorem State.withPoints_rules (x : List (Option PointEntry)) : (s.withPoints x).rules = s.rules := rfl
@[simp] theorem State.withPoints_records (x : List (Option PointEntry)) : (s.withPoints x).records = s.records := rfl
@[simp] theorem State.withPoints_heldLevels (x : List (Option PointEntry)) : (s.withPoints x).heldLevels = s.heldLevels := rfl
@[simp] theorem State.withPoints_relaySet (x : List (Option PointEntry)) : (s.withPoints x).relaySet = s.relaySet := rfl
@[simp] theorem State.withPoints_contacts (x : List (Option PointEntry)) : (s.withPoints x).contacts = s.contacts := rfl
@[simp] theorem State.withPoints_trunk (x : List (Option PointEntry)) : (s.withPoints x).trunk = s.trunk := rfl
@[simp] theorem State.withPoints_branch (x : List (Option PointEntry)) : (s.withPoints x).branch = s.branch := rfl
@[simp] theorem State.withPoints_responseTimeout (x : List (Option PointEntry)) : (s.withPoints x).responseTimeout = s.responseTimeout := rfl
@[simp] theorem State.withPoints_relayQueue (x : List (Option PointEntry)) : (s.withPoints x).relayQueue = s.relayQueue := rfl
@[simp] theorem State.withPoints_trunkOut (x : List (Option PointEntry)) : (s.withPoints x).trunkOut = s.trunkOut := rfl
@[simp] theorem State.withPoints_txn (x : List (Option PointEntry)) : (s.withPoints x).txn = s.txn := rfl
@[simp] theorem State.withPoints_fairness (x : List (Option PointEntry)) : (s.withPoints x).fairness = s.fairness := rfl
@[simp] theorem State.withPoints_noResponse (x : List (Option PointEntry)) : (s.withPoints x).noResponse = s.noResponse := rfl
@[simp] theorem State.withPoints_globals (x : List (Option PointEntry)) : (s.withPoints x).globals = s.globals := rfl
@[simp] theorem State.withPoints_staged (x : List (Option PointEntry)) : (s.withPoints x).staged = s.staged := rfl
@[simp] theorem State.withPoints_commit (x : List (Option PointEntry)) : (s.withPoints x).commit = s.commit := rfl
@[simp] theorem State.withPoints_restartPending (x : List (Option PointEntry)) : (s.withPoints x).restartPending = s.restartPending := rfl
@[simp] theorem State.withPoints_notice (x : List (Option PointEntry)) : (s.withPoints x).notice = s.notice := rfl
@[simp] theorem State.withPoints_store (x : List (Option PointEntry)) : (s.withPoints x).store = s.store := rfl

@[simp] theorem State.withRules_pending (x : List (Option OverrideRule)) : (s.withRules x).pending = s.pending := rfl
@[simp] theorem State.withRules_freeCount (x : List (Option OverrideRule)) : (s.withRules x).freeCount = s.freeCount := rfl
@[simp] theorem State.withRules_plantClock (x : List (Option OverrideRule)) : (s.withRules x).plantClock = s.plantClock := rfl
@[simp] theorem State.withRules_straps (x : List (Option OverrideRule)) : (s.withRules x).straps = s.straps := rfl
@[simp] theorem State.withRules_fallback (x : List (Option OverrideRule)) : (s.withRules x).fallback = s.fallback := rfl
@[simp] theorem State.withRules_coils (x : List (Option OverrideRule)) : (s.withRules x).coils = s.coils := rfl
@[simp] theorem State.withRules_points (x : List (Option OverrideRule)) : (s.withRules x).points = s.points := rfl
@[simp] theorem State.withRules_rules (x : List (Option OverrideRule)) : (s.withRules x).rules = x := rfl
@[simp] theorem State.withRules_records (x : List (Option OverrideRule)) : (s.withRules x).records = s.records := rfl
@[simp] theorem State.withRules_heldLevels (x : List (Option OverrideRule)) : (s.withRules x).heldLevels = s.heldLevels := rfl
@[simp] theorem State.withRules_relaySet (x : List (Option OverrideRule)) : (s.withRules x).relaySet = s.relaySet := rfl
@[simp] theorem State.withRules_contacts (x : List (Option OverrideRule)) : (s.withRules x).contacts = s.contacts := rfl
@[simp] theorem State.withRules_trunk (x : List (Option OverrideRule)) : (s.withRules x).trunk = s.trunk := rfl
@[simp] theorem State.withRules_branch (x : List (Option OverrideRule)) : (s.withRules x).branch = s.branch := rfl
@[simp] theorem State.withRules_responseTimeout (x : List (Option OverrideRule)) : (s.withRules x).responseTimeout = s.responseTimeout := rfl
@[simp] theorem State.withRules_relayQueue (x : List (Option OverrideRule)) : (s.withRules x).relayQueue = s.relayQueue := rfl
@[simp] theorem State.withRules_trunkOut (x : List (Option OverrideRule)) : (s.withRules x).trunkOut = s.trunkOut := rfl
@[simp] theorem State.withRules_txn (x : List (Option OverrideRule)) : (s.withRules x).txn = s.txn := rfl
@[simp] theorem State.withRules_fairness (x : List (Option OverrideRule)) : (s.withRules x).fairness = s.fairness := rfl
@[simp] theorem State.withRules_noResponse (x : List (Option OverrideRule)) : (s.withRules x).noResponse = s.noResponse := rfl
@[simp] theorem State.withRules_globals (x : List (Option OverrideRule)) : (s.withRules x).globals = s.globals := rfl
@[simp] theorem State.withRules_staged (x : List (Option OverrideRule)) : (s.withRules x).staged = s.staged := rfl
@[simp] theorem State.withRules_commit (x : List (Option OverrideRule)) : (s.withRules x).commit = s.commit := rfl
@[simp] theorem State.withRules_restartPending (x : List (Option OverrideRule)) : (s.withRules x).restartPending = s.restartPending := rfl
@[simp] theorem State.withRules_notice (x : List (Option OverrideRule)) : (s.withRules x).notice = s.notice := rfl
@[simp] theorem State.withRules_store (x : List (Option OverrideRule)) : (s.withRules x).store = s.store := rfl

@[simp] theorem State.withRecords_pending (x : List (Option ActuatorRecord)) : (s.withRecords x).pending = s.pending := rfl
@[simp] theorem State.withRecords_freeCount (x : List (Option ActuatorRecord)) : (s.withRecords x).freeCount = s.freeCount := rfl
@[simp] theorem State.withRecords_plantClock (x : List (Option ActuatorRecord)) : (s.withRecords x).plantClock = s.plantClock := rfl
@[simp] theorem State.withRecords_straps (x : List (Option ActuatorRecord)) : (s.withRecords x).straps = s.straps := rfl
@[simp] theorem State.withRecords_fallback (x : List (Option ActuatorRecord)) : (s.withRecords x).fallback = s.fallback := rfl
@[simp] theorem State.withRecords_coils (x : List (Option ActuatorRecord)) : (s.withRecords x).coils = s.coils := rfl
@[simp] theorem State.withRecords_points (x : List (Option ActuatorRecord)) : (s.withRecords x).points = s.points := rfl
@[simp] theorem State.withRecords_rules (x : List (Option ActuatorRecord)) : (s.withRecords x).rules = s.rules := rfl
@[simp] theorem State.withRecords_records (x : List (Option ActuatorRecord)) : (s.withRecords x).records = x := rfl
@[simp] theorem State.withRecords_heldLevels (x : List (Option ActuatorRecord)) : (s.withRecords x).heldLevels = s.heldLevels := rfl
@[simp] theorem State.withRecords_relaySet (x : List (Option ActuatorRecord)) : (s.withRecords x).relaySet = s.relaySet := rfl
@[simp] theorem State.withRecords_contacts (x : List (Option ActuatorRecord)) : (s.withRecords x).contacts = s.contacts := rfl
@[simp] theorem State.withRecords_trunk (x : List (Option ActuatorRecord)) : (s.withRecords x).trunk = s.trunk := rfl
@[simp] theorem State.withRecords_branch (x : List (Option ActuatorRecord)) : (s.withRecords x).branch = s.branch := rfl
@[simp] theorem State.withRecords_responseTimeout (x : List (Option ActuatorRecord)) : (s.withRecords x).responseTimeout = s.responseTimeout := rfl
@[simp] theorem State.withRecords_relayQueue (x : List (Option ActuatorRecord)) : (s.withRecords x).relayQueue = s.relayQueue := rfl
@[simp] theorem State.withRecords_trunkOut (x : List (Option ActuatorRecord)) : (s.withRecords x).trunkOut = s.trunkOut := rfl
@[simp] theorem State.withRecords_txn (x : List (Option ActuatorRecord)) : (s.withRecords x).txn = s.txn := rfl
@[simp] theorem State.withRecords_fairness (x : List (Option ActuatorRecord)) : (s.withRecords x).fairness = s.fairness := rfl
@[simp] theorem State.withRecords_noResponse (x : List (Option ActuatorRecord)) : (s.withRecords x).noResponse = s.noResponse := rfl
@[simp] theorem State.withRecords_globals (x : List (Option ActuatorRecord)) : (s.withRecords x).globals = s.globals := rfl
@[simp] theorem State.withRecords_staged (x : List (Option ActuatorRecord)) : (s.withRecords x).staged = s.staged := rfl
@[simp] theorem State.withRecords_commit (x : List (Option ActuatorRecord)) : (s.withRecords x).commit = s.commit := rfl
@[simp] theorem State.withRecords_restartPending (x : List (Option ActuatorRecord)) : (s.withRecords x).restartPending = s.restartPending := rfl
@[simp] theorem State.withRecords_notice (x : List (Option ActuatorRecord)) : (s.withRecords x).notice = s.notice := rfl
@[simp] theorem State.withRecords_store (x : List (Option ActuatorRecord)) : (s.withRecords x).store = s.store := rfl

@[simp] theorem State.withHeldLevels_pending (x : List Nat) : (s.withHeldLevels x).pending = s.pending := rfl
@[simp] theorem State.withHeldLevels_freeCount (x : List Nat) : (s.withHeldLevels x).freeCount = s.freeCount := rfl
@[simp] theorem State.withHeldLevels_plantClock (x : List Nat) : (s.withHeldLevels x).plantClock = s.plantClock := rfl
@[simp] theorem State.withHeldLevels_straps (x : List Nat) : (s.withHeldLevels x).straps = s.straps := rfl
@[simp] theorem State.withHeldLevels_fallback (x : List Nat) : (s.withHeldLevels x).fallback = s.fallback := rfl
@[simp] theorem State.withHeldLevels_coils (x : List Nat) : (s.withHeldLevels x).coils = s.coils := rfl
@[simp] theorem State.withHeldLevels_points (x : List Nat) : (s.withHeldLevels x).points = s.points := rfl
@[simp] theorem State.withHeldLevels_rules (x : List Nat) : (s.withHeldLevels x).rules = s.rules := rfl
@[simp] theorem State.withHeldLevels_records (x : List Nat) : (s.withHeldLevels x).records = s.records := rfl
@[simp] theorem State.withHeldLevels_heldLevels (x : List Nat) : (s.withHeldLevels x).heldLevels = x := rfl
@[simp] theorem State.withHeldLevels_relaySet (x : List Nat) : (s.withHeldLevels x).relaySet = s.relaySet := rfl
@[simp] theorem State.withHeldLevels_contacts (x : List Nat) : (s.withHeldLevels x).contacts = s.contacts := rfl
@[simp] theorem State.withHeldLevels_trunk (x : List Nat) : (s.withHeldLevels x).trunk = s.trunk := rfl
@[simp] theorem State.withHeldLevels_branch (x : List Nat) : (s.withHeldLevels x).branch = s.branch := rfl
@[simp] theorem State.withHeldLevels_responseTimeout (x : List Nat) : (s.withHeldLevels x).responseTimeout = s.responseTimeout := rfl
@[simp] theorem State.withHeldLevels_relayQueue (x : List Nat) : (s.withHeldLevels x).relayQueue = s.relayQueue := rfl
@[simp] theorem State.withHeldLevels_trunkOut (x : List Nat) : (s.withHeldLevels x).trunkOut = s.trunkOut := rfl
@[simp] theorem State.withHeldLevels_txn (x : List Nat) : (s.withHeldLevels x).txn = s.txn := rfl
@[simp] theorem State.withHeldLevels_fairness (x : List Nat) : (s.withHeldLevels x).fairness = s.fairness := rfl
@[simp] theorem State.withHeldLevels_noResponse (x : List Nat) : (s.withHeldLevels x).noResponse = s.noResponse := rfl
@[simp] theorem State.withHeldLevels_globals (x : List Nat) : (s.withHeldLevels x).globals = s.globals := rfl
@[simp] theorem State.withHeldLevels_staged (x : List Nat) : (s.withHeldLevels x).staged = s.staged := rfl
@[simp] theorem State.withHeldLevels_commit (x : List Nat) : (s.withHeldLevels x).commit = s.commit := rfl
@[simp] theorem State.withHeldLevels_restartPending (x : List Nat) : (s.withHeldLevels x).restartPending = s.restartPending := rfl
@[simp] theorem State.withHeldLevels_notice (x : List Nat) : (s.withHeldLevels x).notice = s.notice := rfl
@[simp] theorem State.withHeldLevels_store (x : List Nat) : (s.withHeldLevels x).store = s.store := rfl

@[simp] theorem State.withRelaySet_pending (x : List Nat) : (s.withRelaySet x).pending = s.pending := rfl
@[simp] theorem State.withRelaySet_freeCount (x : List Nat) : (s.withRelaySet x).freeCount = s.freeCount := rfl
@[simp] theorem State.withRelaySet_plantClock (x : List Nat) : (s.withRelaySet x).plantClock = s.plantClock := rfl
@[simp] theorem State.withRelaySet_straps (x : List Nat) : (s.withRelaySet x).straps = s.straps := rfl
@[simp] theorem State.withRelaySet_fallback (x : List Nat) : (s.withRelaySet x).fallback = s.fallback := rfl
@[simp] theorem State.withRelaySet_coils (x : List Nat) : (s.withRelaySet x).coils = s.coils := rfl
@[simp] theorem State.withRelaySet_points (x : List Nat) : (s.withRelaySet x).points = s.points := rfl
@[simp] theorem State.withRelaySet_rules (x : List Nat) : (s.withRelaySet x).rules = s.rules := rfl
@[simp] theorem State.withRelaySet_records (x : List Nat) : (s.withRelaySet x).records = s.records := rfl
@[simp] theorem State.withRelaySet_heldLevels (x : List Nat) : (s.withRelaySet x).heldLevels = s.heldLevels := rfl
@[simp] theorem State.withRelaySet_relaySet (x : List Nat) : (s.withRelaySet x).relaySet = x := rfl
@[simp] theorem State.withRelaySet_contacts (x : List Nat) : (s.withRelaySet x).contacts = s.contacts := rfl
@[simp] theorem State.withRelaySet_trunk (x : List Nat) : (s.withRelaySet x).trunk = s.trunk := rfl
@[simp] theorem State.withRelaySet_branch (x : List Nat) : (s.withRelaySet x).branch = s.branch := rfl
@[simp] theorem State.withRelaySet_responseTimeout (x : List Nat) : (s.withRelaySet x).responseTimeout = s.responseTimeout := rfl
@[simp] theorem State.withRelaySet_relayQueue (x : List Nat) : (s.withRelaySet x).relayQueue = s.relayQueue := rfl
@[simp] theorem State.withRelaySet_trunkOut (x : List Nat) : (s.withRelaySet x).trunkOut = s.trunkOut := rfl
@[simp] theorem State.withRelaySet_txn (x : List Nat) : (s.withRelaySet x).txn = s.txn := rfl
@[simp] theorem State.withRelaySet_fairness (x : List Nat) : (s.withRelaySet x).fairness = s.fairness := rfl
@[simp] theorem State.withRelaySet_noResponse (x : List Nat) : (s.withRelaySet x).noResponse = s.noResponse := rfl
@[simp] theorem State.withRelaySet_globals (x : List Nat) : (s.withRelaySet x).globals = s.globals := rfl
@[simp] theorem State.withRelaySet_staged (x : List Nat) : (s.withRelaySet x).staged = s.staged := rfl
@[simp] theorem State.withRelaySet_commit (x : List Nat) : (s.withRelaySet x).commit = s.commit := rfl
@[simp] theorem State.withRelaySet_restartPending (x : List Nat) : (s.withRelaySet x).restartPending = s.restartPending := rfl
@[simp] theorem State.withRelaySet_notice (x : List Nat) : (s.withRelaySet x).notice = s.notice := rfl
@[simp] theorem State.withRelaySet_store (x : List Nat) : (s.withRelaySet x).store = s.store := rfl

@[simp] theorem State.withContacts_pending (x : ContactBlock) : (s.withContacts x).pending = s.pending := rfl
@[simp] theorem State.withContacts_freeCount (x : ContactBlock) : (s.withContacts x).freeCount = s.freeCount := rfl
@[simp] theorem State.withContacts_plantClock (x : ContactBlock) : (s.withContacts x).plantClock = s.plantClock := rfl
@[simp] theorem State.withContacts_straps (x : ContactBlock) : (s.withContacts x).straps = s.straps := rfl
@[simp] theorem State.withContacts_fallback (x : ContactBlock) : (s.withContacts x).fallback = s.fallback := rfl
@[simp] theorem State.withContacts_coils (x : ContactBlock) : (s.withContacts x).coils = s.coils := rfl
@[simp] theorem State.withContacts_points (x : ContactBlock) : (s.withContacts x).points = s.points := rfl
@[simp] theorem State.withContacts_rules (x : ContactBlock) : (s.withContacts x).rules = s.rules := rfl
@[simp] theorem State.withContacts_records (x : ContactBlock) : (s.withContacts x).records = s.records := rfl
@[simp] theorem State.withContacts_heldLevels (x : ContactBlock) : (s.withContacts x).heldLevels = s.heldLevels := rfl
@[simp] theorem State.withContacts_relaySet (x : ContactBlock) : (s.withContacts x).relaySet = s.relaySet := rfl
@[simp] theorem State.withContacts_contacts (x : ContactBlock) : (s.withContacts x).contacts = x := rfl
@[simp] theorem State.withContacts_trunk (x : ContactBlock) : (s.withContacts x).trunk = s.trunk := rfl
@[simp] theorem State.withContacts_branch (x : ContactBlock) : (s.withContacts x).branch = s.branch := rfl
@[simp] theorem State.withContacts_responseTimeout (x : ContactBlock) : (s.withContacts x).responseTimeout = s.responseTimeout := rfl
@[simp] theorem State.withContacts_relayQueue (x : ContactBlock) : (s.withContacts x).relayQueue = s.relayQueue := rfl
@[simp] theorem State.withContacts_trunkOut (x : ContactBlock) : (s.withContacts x).trunkOut = s.trunkOut := rfl
@[simp] theorem State.withContacts_txn (x : ContactBlock) : (s.withContacts x).txn = s.txn := rfl
@[simp] theorem State.withContacts_fairness (x : ContactBlock) : (s.withContacts x).fairness = s.fairness := rfl
@[simp] theorem State.withContacts_noResponse (x : ContactBlock) : (s.withContacts x).noResponse = s.noResponse := rfl
@[simp] theorem State.withContacts_globals (x : ContactBlock) : (s.withContacts x).globals = s.globals := rfl
@[simp] theorem State.withContacts_staged (x : ContactBlock) : (s.withContacts x).staged = s.staged := rfl
@[simp] theorem State.withContacts_commit (x : ContactBlock) : (s.withContacts x).commit = s.commit := rfl
@[simp] theorem State.withContacts_restartPending (x : ContactBlock) : (s.withContacts x).restartPending = s.restartPending := rfl
@[simp] theorem State.withContacts_notice (x : ContactBlock) : (s.withContacts x).notice = s.notice := rfl
@[simp] theorem State.withContacts_store (x : ContactBlock) : (s.withContacts x).store = s.store := rfl

@[simp] theorem State.withTrunk_pending (x : Port) : (s.withTrunk x).pending = s.pending := rfl
@[simp] theorem State.withTrunk_freeCount (x : Port) : (s.withTrunk x).freeCount = s.freeCount := rfl
@[simp] theorem State.withTrunk_plantClock (x : Port) : (s.withTrunk x).plantClock = s.plantClock := rfl
@[simp] theorem State.withTrunk_straps (x : Port) : (s.withTrunk x).straps = s.straps := rfl
@[simp] theorem State.withTrunk_fallback (x : Port) : (s.withTrunk x).fallback = s.fallback := rfl
@[simp] theorem State.withTrunk_coils (x : Port) : (s.withTrunk x).coils = s.coils := rfl
@[simp] theorem State.withTrunk_points (x : Port) : (s.withTrunk x).points = s.points := rfl
@[simp] theorem State.withTrunk_rules (x : Port) : (s.withTrunk x).rules = s.rules := rfl
@[simp] theorem State.withTrunk_records (x : Port) : (s.withTrunk x).records = s.records := rfl
@[simp] theorem State.withTrunk_heldLevels (x : Port) : (s.withTrunk x).heldLevels = s.heldLevels := rfl
@[simp] theorem State.withTrunk_relaySet (x : Port) : (s.withTrunk x).relaySet = s.relaySet := rfl
@[simp] theorem State.withTrunk_contacts (x : Port) : (s.withTrunk x).contacts = s.contacts := rfl
@[simp] theorem State.withTrunk_trunk (x : Port) : (s.withTrunk x).trunk = x := rfl
@[simp] theorem State.withTrunk_branch (x : Port) : (s.withTrunk x).branch = s.branch := rfl
@[simp] theorem State.withTrunk_responseTimeout (x : Port) : (s.withTrunk x).responseTimeout = s.responseTimeout := rfl
@[simp] theorem State.withTrunk_relayQueue (x : Port) : (s.withTrunk x).relayQueue = s.relayQueue := rfl
@[simp] theorem State.withTrunk_trunkOut (x : Port) : (s.withTrunk x).trunkOut = s.trunkOut := rfl
@[simp] theorem State.withTrunk_txn (x : Port) : (s.withTrunk x).txn = s.txn := rfl
@[simp] theorem State.withTrunk_fairness (x : Port) : (s.withTrunk x).fairness = s.fairness := rfl
@[simp] theorem State.withTrunk_noResponse (x : Port) : (s.withTrunk x).noResponse = s.noResponse := rfl
@[simp] theorem State.withTrunk_globals (x : Port) : (s.withTrunk x).globals = s.globals := rfl
@[simp] theorem State.withTrunk_staged (x : Port) : (s.withTrunk x).staged = s.staged := rfl
@[simp] theorem State.withTrunk_commit (x : Port) : (s.withTrunk x).commit = s.commit := rfl
@[simp] theorem State.withTrunk_restartPending (x : Port) : (s.withTrunk x).restartPending = s.restartPending := rfl
@[simp] theorem State.withTrunk_notice (x : Port) : (s.withTrunk x).notice = s.notice := rfl
@[simp] theorem State.withTrunk_store (x : Port) : (s.withTrunk x).store = s.store := rfl

@[simp] theorem State.withBranch_pending (x : Port) : (s.withBranch x).pending = s.pending := rfl
@[simp] theorem State.withBranch_freeCount (x : Port) : (s.withBranch x).freeCount = s.freeCount := rfl
@[simp] theorem State.withBranch_plantClock (x : Port) : (s.withBranch x).plantClock = s.plantClock := rfl
@[simp] theorem State.withBranch_straps (x : Port) : (s.withBranch x).straps = s.straps := rfl
@[simp] theorem State.withBranch_fallback (x : Port) : (s.withBranch x).fallback = s.fallback := rfl
@[simp] theorem State.withBranch_coils (x : Port) : (s.withBranch x).coils = s.coils := rfl
@[simp] theorem State.withBranch_points (x : Port) : (s.withBranch x).points = s.points := rfl
@[simp] theorem State.withBranch_rules (x : Port) : (s.withBranch x).rules = s.rules := rfl
@[simp] theorem State.withBranch_records (x : Port) : (s.withBranch x).records = s.records := rfl
@[simp] theorem State.withBranch_heldLevels (x : Port) : (s.withBranch x).heldLevels = s.heldLevels := rfl
@[simp] theorem State.withBranch_relaySet (x : Port) : (s.withBranch x).relaySet = s.relaySet := rfl
@[simp] theorem State.withBranch_contacts (x : Port) : (s.withBranch x).contacts = s.contacts := rfl
@[simp] theorem State.withBranch_trunk (x : Port) : (s.withBranch x).trunk = s.trunk := rfl
@[simp] theorem State.withBranch_branch (x : Port) : (s.withBranch x).branch = x := rfl
@[simp] theorem State.withBranch_responseTimeout (x : Port) : (s.withBranch x).responseTimeout = s.responseTimeout := rfl
@[simp] theorem State.withBranch_relayQueue (x : Port) : (s.withBranch x).relayQueue = s.relayQueue := rfl
@[simp] theorem State.withBranch_trunkOut (x : Port) : (s.withBranch x).trunkOut = s.trunkOut := rfl
@[simp] theorem State.withBranch_txn (x : Port) : (s.withBranch x).txn = s.txn := rfl
@[simp] theorem State.withBranch_fairness (x : Port) : (s.withBranch x).fairness = s.fairness := rfl
@[simp] theorem State.withBranch_noResponse (x : Port) : (s.withBranch x).noResponse = s.noResponse := rfl
@[simp] theorem State.withBranch_globals (x : Port) : (s.withBranch x).globals = s.globals := rfl
@[simp] theorem State.withBranch_staged (x : Port) : (s.withBranch x).staged = s.staged := rfl
@[simp] theorem State.withBranch_commit (x : Port) : (s.withBranch x).commit = s.commit := rfl
@[simp] theorem State.withBranch_restartPending (x : Port) : (s.withBranch x).restartPending = s.restartPending := rfl
@[simp] theorem State.withBranch_notice (x : Port) : (s.withBranch x).notice = s.notice := rfl
@[simp] theorem State.withBranch_store (x : Port) : (s.withBranch x).store = s.store := rfl

@[simp] theorem State.withResponseTimeout_pending (x : Nat) : (s.withResponseTimeout x).pending = s.pending := rfl
@[simp] theorem State.withResponseTimeout_freeCount (x : Nat) : (s.withResponseTimeout x).freeCount = s.freeCount := rfl
@[simp] theorem State.withResponseTimeout_plantClock (x : Nat) : (s.withResponseTimeout x).plantClock = s.plantClock := rfl
@[simp] theorem State.withResponseTimeout_straps (x : Nat) : (s.withResponseTimeout x).straps = s.straps := rfl
@[simp] theorem State.withResponseTimeout_fallback (x : Nat) : (s.withResponseTimeout x).fallback = s.fallback := rfl
@[simp] theorem State.withResponseTimeout_coils (x : Nat) : (s.withResponseTimeout x).coils = s.coils := rfl
@[simp] theorem State.withResponseTimeout_points (x : Nat) : (s.withResponseTimeout x).points = s.points := rfl
@[simp] theorem State.withResponseTimeout_rules (x : Nat) : (s.withResponseTimeout x).rules = s.rules := rfl
@[simp] theorem State.withResponseTimeout_records (x : Nat) : (s.withResponseTimeout x).records = s.records := rfl
@[simp] theorem State.withResponseTimeout_heldLevels (x : Nat) : (s.withResponseTimeout x).heldLevels = s.heldLevels := rfl
@[simp] theorem State.withResponseTimeout_relaySet (x : Nat) : (s.withResponseTimeout x).relaySet = s.relaySet := rfl
@[simp] theorem State.withResponseTimeout_contacts (x : Nat) : (s.withResponseTimeout x).contacts = s.contacts := rfl
@[simp] theorem State.withResponseTimeout_trunk (x : Nat) : (s.withResponseTimeout x).trunk = s.trunk := rfl
@[simp] theorem State.withResponseTimeout_branch (x : Nat) : (s.withResponseTimeout x).branch = s.branch := rfl
@[simp] theorem State.withResponseTimeout_responseTimeout (x : Nat) : (s.withResponseTimeout x).responseTimeout = x := rfl
@[simp] theorem State.withResponseTimeout_relayQueue (x : Nat) : (s.withResponseTimeout x).relayQueue = s.relayQueue := rfl
@[simp] theorem State.withResponseTimeout_trunkOut (x : Nat) : (s.withResponseTimeout x).trunkOut = s.trunkOut := rfl
@[simp] theorem State.withResponseTimeout_txn (x : Nat) : (s.withResponseTimeout x).txn = s.txn := rfl
@[simp] theorem State.withResponseTimeout_fairness (x : Nat) : (s.withResponseTimeout x).fairness = s.fairness := rfl
@[simp] theorem State.withResponseTimeout_noResponse (x : Nat) : (s.withResponseTimeout x).noResponse = s.noResponse := rfl
@[simp] theorem State.withResponseTimeout_globals (x : Nat) : (s.withResponseTimeout x).globals = s.globals := rfl
@[simp] theorem State.withResponseTimeout_staged (x : Nat) : (s.withResponseTimeout x).staged = s.staged := rfl
@[simp] theorem State.withResponseTimeout_commit (x : Nat) : (s.withResponseTimeout x).commit = s.commit := rfl
@[simp] theorem State.withResponseTimeout_restartPending (x : Nat) : (s.withResponseTimeout x).restartPending = s.restartPending := rfl
@[simp] theorem State.withResponseTimeout_notice (x : Nat) : (s.withResponseTimeout x).notice = s.notice := rfl
@[simp] theorem State.withResponseTimeout_store (x : Nat) : (s.withResponseTimeout x).store = s.store := rfl

@[simp] theorem State.withRelayQueue_pending (x : List Telegram) : (s.withRelayQueue x).pending = s.pending := rfl
@[simp] theorem State.withRelayQueue_freeCount (x : List Telegram) : (s.withRelayQueue x).freeCount = s.freeCount := rfl
@[simp] theorem State.withRelayQueue_plantClock (x : List Telegram) : (s.withRelayQueue x).plantClock = s.plantClock := rfl
@[simp] theorem State.withRelayQueue_straps (x : List Telegram) : (s.withRelayQueue x).straps = s.straps := rfl
@[simp] theorem State.withRelayQueue_fallback (x : List Telegram) : (s.withRelayQueue x).fallback = s.fallback := rfl
@[simp] theorem State.withRelayQueue_coils (x : List Telegram) : (s.withRelayQueue x).coils = s.coils := rfl
@[simp] theorem State.withRelayQueue_points (x : List Telegram) : (s.withRelayQueue x).points = s.points := rfl
@[simp] theorem State.withRelayQueue_rules (x : List Telegram) : (s.withRelayQueue x).rules = s.rules := rfl
@[simp] theorem State.withRelayQueue_records (x : List Telegram) : (s.withRelayQueue x).records = s.records := rfl
@[simp] theorem State.withRelayQueue_heldLevels (x : List Telegram) : (s.withRelayQueue x).heldLevels = s.heldLevels := rfl
@[simp] theorem State.withRelayQueue_relaySet (x : List Telegram) : (s.withRelayQueue x).relaySet = s.relaySet := rfl
@[simp] theorem State.withRelayQueue_contacts (x : List Telegram) : (s.withRelayQueue x).contacts = s.contacts := rfl
@[simp] theorem State.withRelayQueue_trunk (x : List Telegram) : (s.withRelayQueue x).trunk = s.trunk := rfl
@[simp] theorem State.withRelayQueue_branch (x : List Telegram) : (s.withRelayQueue x).branch = s.branch := rfl
@[simp] theorem State.withRelayQueue_responseTimeout (x : List Telegram) : (s.withRelayQueue x).responseTimeout = s.responseTimeout := rfl
@[simp] theorem State.withRelayQueue_relayQueue (x : List Telegram) : (s.withRelayQueue x).relayQueue = x := rfl
@[simp] theorem State.withRelayQueue_trunkOut (x : List Telegram) : (s.withRelayQueue x).trunkOut = s.trunkOut := rfl
@[simp] theorem State.withRelayQueue_txn (x : List Telegram) : (s.withRelayQueue x).txn = s.txn := rfl
@[simp] theorem State.withRelayQueue_fairness (x : List Telegram) : (s.withRelayQueue x).fairness = s.fairness := rfl
@[simp] theorem State.withRelayQueue_noResponse (x : List Telegram) : (s.withRelayQueue x).noResponse = s.noResponse := rfl
@[simp] theorem State.withRelayQueue_globals (x : List Telegram) : (s.withRelayQueue x).globals = s.globals := rfl
@[simp] theorem State.withRelayQueue_staged (x : List Telegram) : (s.withRelayQueue x).staged = s.staged := rfl
@[simp] theorem State.withRelayQueue_commit (x : List Telegram) : (s.withRelayQueue x).commit = s.commit := rfl
@[simp] theorem State.withRelayQueue_restartPending (x : List Telegram) : (s.withRelayQueue x).restartPending = s.restartPending := rfl
@[simp] theorem State.withRelayQueue_notice (x : List Telegram) : (s.withRelayQueue x).notice = s.notice := rfl
@[simp] theorem State.withRelayQueue_store (x : List Telegram) : (s.withRelayQueue x).store = s.store := rfl

@[simp] theorem State.withTrunkOut_pending (x : TrunkOut) : (s.withTrunkOut x).pending = s.pending := rfl
@[simp] theorem State.withTrunkOut_freeCount (x : TrunkOut) : (s.withTrunkOut x).freeCount = s.freeCount := rfl
@[simp] theorem State.withTrunkOut_plantClock (x : TrunkOut) : (s.withTrunkOut x).plantClock = s.plantClock := rfl
@[simp] theorem State.withTrunkOut_straps (x : TrunkOut) : (s.withTrunkOut x).straps = s.straps := rfl
@[simp] theorem State.withTrunkOut_fallback (x : TrunkOut) : (s.withTrunkOut x).fallback = s.fallback := rfl
@[simp] theorem State.withTrunkOut_coils (x : TrunkOut) : (s.withTrunkOut x).coils = s.coils := rfl
@[simp] theorem State.withTrunkOut_points (x : TrunkOut) : (s.withTrunkOut x).points = s.points := rfl
@[simp] theorem State.withTrunkOut_rules (x : TrunkOut) : (s.withTrunkOut x).rules = s.rules := rfl
@[simp] theorem State.withTrunkOut_records (x : TrunkOut) : (s.withTrunkOut x).records = s.records := rfl
@[simp] theorem State.withTrunkOut_heldLevels (x : TrunkOut) : (s.withTrunkOut x).heldLevels = s.heldLevels := rfl
@[simp] theorem State.withTrunkOut_relaySet (x : TrunkOut) : (s.withTrunkOut x).relaySet = s.relaySet := rfl
@[simp] theorem State.withTrunkOut_contacts (x : TrunkOut) : (s.withTrunkOut x).contacts = s.contacts := rfl
@[simp] theorem State.withTrunkOut_trunk (x : TrunkOut) : (s.withTrunkOut x).trunk = s.trunk := rfl
@[simp] theorem State.withTrunkOut_branch (x : TrunkOut) : (s.withTrunkOut x).branch = s.branch := rfl
@[simp] theorem State.withTrunkOut_responseTimeout (x : TrunkOut) : (s.withTrunkOut x).responseTimeout = s.responseTimeout := rfl
@[simp] theorem State.withTrunkOut_relayQueue (x : TrunkOut) : (s.withTrunkOut x).relayQueue = s.relayQueue := rfl
@[simp] theorem State.withTrunkOut_trunkOut (x : TrunkOut) : (s.withTrunkOut x).trunkOut = x := rfl
@[simp] theorem State.withTrunkOut_txn (x : TrunkOut) : (s.withTrunkOut x).txn = s.txn := rfl
@[simp] theorem State.withTrunkOut_fairness (x : TrunkOut) : (s.withTrunkOut x).fairness = s.fairness := rfl
@[simp] theorem State.withTrunkOut_noResponse (x : TrunkOut) : (s.withTrunkOut x).noResponse = s.noResponse := rfl
@[simp] theorem State.withTrunkOut_globals (x : TrunkOut) : (s.withTrunkOut x).globals = s.globals := rfl
@[simp] theorem State.withTrunkOut_staged (x : TrunkOut) : (s.withTrunkOut x).staged = s.staged := rfl
@[simp] theorem State.withTrunkOut_commit (x : TrunkOut) : (s.withTrunkOut x).commit = s.commit := rfl
@[simp] theorem State.withTrunkOut_restartPending (x : TrunkOut) : (s.withTrunkOut x).restartPending = s.restartPending := rfl
@[simp] theorem State.withTrunkOut_notice (x : TrunkOut) : (s.withTrunkOut x).notice = s.notice := rfl
@[simp] theorem State.withTrunkOut_store (x : TrunkOut) : (s.withTrunkOut x).store = s.store := rfl

@[simp] theorem State.withTxn_pending (x : TxnState) : (s.withTxn x).pending = s.pending := rfl
@[simp] theorem State.withTxn_freeCount (x : TxnState) : (s.withTxn x).freeCount = s.freeCount := rfl
@[simp] theorem State.withTxn_plantClock (x : TxnState) : (s.withTxn x).plantClock = s.plantClock := rfl
@[simp] theorem State.withTxn_straps (x : TxnState) : (s.withTxn x).straps = s.straps := rfl
@[simp] theorem State.withTxn_fallback (x : TxnState) : (s.withTxn x).fallback = s.fallback := rfl
@[simp] theorem State.withTxn_coils (x : TxnState) : (s.withTxn x).coils = s.coils := rfl
@[simp] theorem State.withTxn_points (x : TxnState) : (s.withTxn x).points = s.points := rfl
@[simp] theorem State.withTxn_rules (x : TxnState) : (s.withTxn x).rules = s.rules := rfl
@[simp] theorem State.withTxn_records (x : TxnState) : (s.withTxn x).records = s.records := rfl
@[simp] theorem State.withTxn_heldLevels (x : TxnState) : (s.withTxn x).heldLevels = s.heldLevels := rfl
@[simp] theorem State.withTxn_relaySet (x : TxnState) : (s.withTxn x).relaySet = s.relaySet := rfl
@[simp] theorem State.withTxn_contacts (x : TxnState) : (s.withTxn x).contacts = s.contacts := rfl
@[simp] theorem State.withTxn_trunk (x : TxnState) : (s.withTxn x).trunk = s.trunk := rfl
@[simp] theorem State.withTxn_branch (x : TxnState) : (s.withTxn x).branch = s.branch := rfl
@[simp] theorem State.withTxn_responseTimeout (x : TxnState) : (s.withTxn x).responseTimeout = s.responseTimeout := rfl
@[simp] theorem State.withTxn_relayQueue (x : TxnState) : (s.withTxn x).relayQueue = s.relayQueue := rfl
@[simp] theorem State.withTxn_trunkOut (x : TxnState) : (s.withTxn x).trunkOut = s.trunkOut := rfl
@[simp] theorem State.withTxn_txn (x : TxnState) : (s.withTxn x).txn = x := rfl
@[simp] theorem State.withTxn_fairness (x : TxnState) : (s.withTxn x).fairness = s.fairness := rfl
@[simp] theorem State.withTxn_noResponse (x : TxnState) : (s.withTxn x).noResponse = s.noResponse := rfl
@[simp] theorem State.withTxn_globals (x : TxnState) : (s.withTxn x).globals = s.globals := rfl
@[simp] theorem State.withTxn_staged (x : TxnState) : (s.withTxn x).staged = s.staged := rfl
@[simp] theorem State.withTxn_commit (x : TxnState) : (s.withTxn x).commit = s.commit := rfl
@[simp] theorem State.withTxn_restartPending (x : TxnState) : (s.withTxn x).restartPending = s.restartPending := rfl
@[simp] theorem State.withTxn_notice (x : TxnState) : (s.withTxn x).notice = s.notice := rfl
@[simp] theorem State.withTxn_store (x : TxnState) : (s.withTxn x).store = s.store := rfl

@[simp] theorem State.withFairness_pending (x : Nat) : (s.withFairness x).pending = s.pending := rfl
@[simp] theorem State.withFairness_freeCount (x : Nat) : (s.withFairness x).freeCount = s.freeCount := rfl
@[simp] theorem State.withFairness_plantClock (x : Nat) : (s.withFairness x).plantClock = s.plantClock := rfl
@[simp] theorem State.withFairness_straps (x : Nat) : (s.withFairness x).straps = s.straps := rfl
@[simp] theorem State.withFairness_fallback (x : Nat) : (s.withFairness x).fallback = s.fallback := rfl
@[simp] theorem State.withFairness_coils (x : Nat) : (s.withFairness x).coils = s.coils := rfl
@[simp] theorem State.withFairness_points (x : Nat) : (s.withFairness x).points = s.points := rfl
@[simp] theorem State.withFairness_rules (x : Nat) : (s.withFairness x).rules = s.rules := rfl
@[simp] theorem State.withFairness_records (x : Nat) : (s.withFairness x).records = s.records := rfl
@[simp] theorem State.withFairness_heldLevels (x : Nat) : (s.withFairness x).heldLevels = s.heldLevels := rfl
@[simp] theorem State.withFairness_relaySet (x : Nat) : (s.withFairness x).relaySet = s.relaySet := rfl
@[simp] theorem State.withFairness_contacts (x : Nat) : (s.withFairness x).contacts = s.contacts := rfl
@[simp] theorem State.withFairness_trunk (x : Nat) : (s.withFairness x).trunk = s.trunk := rfl
@[simp] theorem State.withFairness_branch (x : Nat) : (s.withFairness x).branch = s.branch := rfl
@[simp] theorem State.withFairness_responseTimeout (x : Nat) : (s.withFairness x).responseTimeout = s.responseTimeout := rfl
@[simp] theorem State.withFairness_relayQueue (x : Nat) : (s.withFairness x).relayQueue = s.relayQueue := rfl
@[simp] theorem State.withFairness_trunkOut (x : Nat) : (s.withFairness x).trunkOut = s.trunkOut := rfl
@[simp] theorem State.withFairness_txn (x : Nat) : (s.withFairness x).txn = s.txn := rfl
@[simp] theorem State.withFairness_fairness (x : Nat) : (s.withFairness x).fairness = x := rfl
@[simp] theorem State.withFairness_noResponse (x : Nat) : (s.withFairness x).noResponse = s.noResponse := rfl
@[simp] theorem State.withFairness_globals (x : Nat) : (s.withFairness x).globals = s.globals := rfl
@[simp] theorem State.withFairness_staged (x : Nat) : (s.withFairness x).staged = s.staged := rfl
@[simp] theorem State.withFairness_commit (x : Nat) : (s.withFairness x).commit = s.commit := rfl
@[simp] theorem State.withFairness_restartPending (x : Nat) : (s.withFairness x).restartPending = s.restartPending := rfl
@[simp] theorem State.withFairness_notice (x : Nat) : (s.withFairness x).notice = s.notice := rfl
@[simp] theorem State.withFairness_store (x : Nat) : (s.withFairness x).store = s.store := rfl

@[simp] theorem State.withNoResponse_pending (x : Nat) : (s.withNoResponse x).pending = s.pending := rfl
@[simp] theorem State.withNoResponse_freeCount (x : Nat) : (s.withNoResponse x).freeCount = s.freeCount := rfl
@[simp] theorem State.withNoResponse_plantClock (x : Nat) : (s.withNoResponse x).plantClock = s.plantClock := rfl
@[simp] theorem State.withNoResponse_straps (x : Nat) : (s.withNoResponse x).straps = s.straps := rfl
@[simp] theorem State.withNoResponse_fallback (x : Nat) : (s.withNoResponse x).fallback = s.fallback := rfl
@[simp] theorem State.withNoResponse_coils (x : Nat) : (s.withNoResponse x).coils = s.coils := rfl
@[simp] theorem State.withNoResponse_points (x : Nat) : (s.withNoResponse x).points = s.points := rfl
@[simp] theorem State.withNoResponse_rules (x : Nat) : (s.withNoResponse x).rules = s.rules := rfl
@[simp] theorem State.withNoResponse_records (x : Nat) : (s.withNoResponse x).records = s.records := rfl
@[simp] theorem State.withNoResponse_heldLevels (x : Nat) : (s.withNoResponse x).heldLevels = s.heldLevels := rfl
@[simp] theorem State.withNoResponse_relaySet (x : Nat) : (s.withNoResponse x).relaySet = s.relaySet := rfl
@[simp] theorem State.withNoResponse_contacts (x : Nat) : (s.withNoResponse x).contacts = s.contacts := rfl
@[simp] theorem State.withNoResponse_trunk (x : Nat) : (s.withNoResponse x).trunk = s.trunk := rfl
@[simp] theorem State.withNoResponse_branch (x : Nat) : (s.withNoResponse x).branch = s.branch := rfl
@[simp] theorem State.withNoResponse_responseTimeout (x : Nat) : (s.withNoResponse x).responseTimeout = s.responseTimeout := rfl
@[simp] theorem State.withNoResponse_relayQueue (x : Nat) : (s.withNoResponse x).relayQueue = s.relayQueue := rfl
@[simp] theorem State.withNoResponse_trunkOut (x : Nat) : (s.withNoResponse x).trunkOut = s.trunkOut := rfl
@[simp] theorem State.withNoResponse_txn (x : Nat) : (s.withNoResponse x).txn = s.txn := rfl
@[simp] theorem State.withNoResponse_fairness (x : Nat) : (s.withNoResponse x).fairness = s.fairness := rfl
@[simp] theorem State.withNoResponse_noResponse (x : Nat) : (s.withNoResponse x).noResponse = x := rfl
@[simp] theorem State.withNoResponse_globals (x : Nat) : (s.withNoResponse x).globals = s.globals := rfl
@[simp] theorem State.withNoResponse_staged (x : Nat) : (s.withNoResponse x).staged = s.staged := rfl
@[simp] theorem State.withNoResponse_commit (x : Nat) : (s.withNoResponse x).commit = s.commit := rfl
@[simp] theorem State.withNoResponse_restartPending (x : Nat) : (s.withNoResponse x).restartPending = s.restartPending := rfl
@[simp] theorem State.withNoResponse_notice (x : Nat) : (s.withNoResponse x).notice = s.notice := rfl
@[simp] theorem State.withNoResponse_store (x : Nat) : (s.withNoResponse x).store = s.store := rfl

@[simp] theorem State.withGlobals_pending (x : GlobalSettings) : (s.withGlobals x).pending = s.pending := rfl
@[simp] theorem State.withGlobals_freeCount (x : GlobalSettings) : (s.withGlobals x).freeCount = s.freeCount := rfl
@[simp] theorem State.withGlobals_plantClock (x : GlobalSettings) : (s.withGlobals x).plantClock = s.plantClock := rfl
@[simp] theorem State.withGlobals_straps (x : GlobalSettings) : (s.withGlobals x).straps = s.straps := rfl
@[simp] theorem State.withGlobals_fallback (x : GlobalSettings) : (s.withGlobals x).fallback = s.fallback := rfl
@[simp] theorem State.withGlobals_coils (x : GlobalSettings) : (s.withGlobals x).coils = s.coils := rfl
@[simp] theorem State.withGlobals_points (x : GlobalSettings) : (s.withGlobals x).points = s.points := rfl
@[simp] theorem State.withGlobals_rules (x : GlobalSettings) : (s.withGlobals x).rules = s.rules := rfl
@[simp] theorem State.withGlobals_records (x : GlobalSettings) : (s.withGlobals x).records = s.records := rfl
@[simp] theorem State.withGlobals_heldLevels (x : GlobalSettings) : (s.withGlobals x).heldLevels = s.heldLevels := rfl
@[simp] theorem State.withGlobals_relaySet (x : GlobalSettings) : (s.withGlobals x).relaySet = s.relaySet := rfl
@[simp] theorem State.withGlobals_contacts (x : GlobalSettings) : (s.withGlobals x).contacts = s.contacts := rfl
@[simp] theorem State.withGlobals_trunk (x : GlobalSettings) : (s.withGlobals x).trunk = s.trunk := rfl
@[simp] theorem State.withGlobals_branch (x : GlobalSettings) : (s.withGlobals x).branch = s.branch := rfl
@[simp] theorem State.withGlobals_responseTimeout (x : GlobalSettings) : (s.withGlobals x).responseTimeout = s.responseTimeout := rfl
@[simp] theorem State.withGlobals_relayQueue (x : GlobalSettings) : (s.withGlobals x).relayQueue = s.relayQueue := rfl
@[simp] theorem State.withGlobals_trunkOut (x : GlobalSettings) : (s.withGlobals x).trunkOut = s.trunkOut := rfl
@[simp] theorem State.withGlobals_txn (x : GlobalSettings) : (s.withGlobals x).txn = s.txn := rfl
@[simp] theorem State.withGlobals_fairness (x : GlobalSettings) : (s.withGlobals x).fairness = s.fairness := rfl
@[simp] theorem State.withGlobals_noResponse (x : GlobalSettings) : (s.withGlobals x).noResponse = s.noResponse := rfl
@[simp] theorem State.withGlobals_globals (x : GlobalSettings) : (s.withGlobals x).globals = x := rfl
@[simp] theorem State.withGlobals_staged (x : GlobalSettings) : (s.withGlobals x).staged = s.staged := rfl
@[simp] theorem State.withGlobals_commit (x : GlobalSettings) : (s.withGlobals x).commit = s.commit := rfl
@[simp] theorem State.withGlobals_restartPending (x : GlobalSettings) : (s.withGlobals x).restartPending = s.restartPending := rfl
@[simp] theorem State.withGlobals_notice (x : GlobalSettings) : (s.withGlobals x).notice = s.notice := rfl
@[simp] theorem State.withGlobals_store (x : GlobalSettings) : (s.withGlobals x).store = s.store := rfl

@[simp] theorem State.withStaged_pending (x : Staged) : (s.withStaged x).pending = s.pending := rfl
@[simp] theorem State.withStaged_freeCount (x : Staged) : (s.withStaged x).freeCount = s.freeCount := rfl
@[simp] theorem State.withStaged_plantClock (x : Staged) : (s.withStaged x).plantClock = s.plantClock := rfl
@[simp] theorem State.withStaged_straps (x : Staged) : (s.withStaged x).straps = s.straps := rfl
@[simp] theorem State.withStaged_fallback (x : Staged) : (s.withStaged x).fallback = s.fallback := rfl
@[simp] theorem State.withStaged_coils (x : Staged) : (s.withStaged x).coils = s.coils := rfl
@[simp] theorem State.withStaged_points (x : Staged) : (s.withStaged x).points = s.points := rfl
@[simp] theorem State.withStaged_rules (x : Staged) : (s.withStaged x).rules = s.rules := rfl
@[simp] theorem State.withStaged_records (x : Staged) : (s.withStaged x).records = s.records := rfl
@[simp] theorem State.withStaged_heldLevels (x : Staged) : (s.withStaged x).heldLevels = s.heldLevels := rfl
@[simp] theorem State.withStaged_relaySet (x : Staged) : (s.withStaged x).relaySet = s.relaySet := rfl
@[simp] theorem State.withStaged_contacts (x : Staged) : (s.withStaged x).contacts = s.contacts := rfl
@[simp] theorem State.withStaged_trunk (x : Staged) : (s.withStaged x).trunk = s.trunk := rfl
@[simp] theorem State.withStaged_branch (x : Staged) : (s.withStaged x).branch = s.branch := rfl
@[simp] theorem State.withStaged_responseTimeout (x : Staged) : (s.withStaged x).responseTimeout = s.responseTimeout := rfl
@[simp] theorem State.withStaged_relayQueue (x : Staged) : (s.withStaged x).relayQueue = s.relayQueue := rfl
@[simp] theorem State.withStaged_trunkOut (x : Staged) : (s.withStaged x).trunkOut = s.trunkOut := rfl
@[simp] theorem State.withStaged_txn (x : Staged) : (s.withStaged x).txn = s.txn := rfl
@[simp] theorem State.withStaged_fairness (x : Staged) : (s.withStaged x).fairness = s.fairness := rfl
@[simp] theorem State.withStaged_noResponse (x : Staged) : (s.withStaged x).noResponse = s.noResponse := rfl
@[simp] theorem State.withStaged_globals (x : Staged) : (s.withStaged x).globals = s.globals := rfl
@[simp] theorem State.withStaged_staged (x : Staged) : (s.withStaged x).staged = x := rfl
@[simp] theorem State.withStaged_commit (x : Staged) : (s.withStaged x).commit = s.commit := rfl
@[simp] theorem State.withStaged_restartPending (x : Staged) : (s.withStaged x).restartPending = s.restartPending := rfl
@[simp] theorem State.withStaged_notice (x : Staged) : (s.withStaged x).notice = s.notice := rfl
@[simp] theorem State.withStaged_store (x : Staged) : (s.withStaged x).store = s.store := rfl

@[simp] theorem State.withCommit_pending (x : Option CommitInFlight) : (s.withCommit x).pending = s.pending := rfl
@[simp] theorem State.withCommit_freeCount (x : Option CommitInFlight) : (s.withCommit x).freeCount = s.freeCount := rfl
@[simp] theorem State.withCommit_plantClock (x : Option CommitInFlight) : (s.withCommit x).plantClock = s.plantClock := rfl
@[simp] theorem State.withCommit_straps (x : Option CommitInFlight) : (s.withCommit x).straps = s.straps := rfl
@[simp] theorem State.withCommit_fallback (x : Option CommitInFlight) : (s.withCommit x).fallback = s.fallback := rfl
@[simp] theorem State.withCommit_coils (x : Option CommitInFlight) : (s.withCommit x).coils = s.coils := rfl
@[simp] theorem State.withCommit_points (x : Option CommitInFlight) : (s.withCommit x).points = s.points := rfl
@[simp] theorem State.withCommit_rules (x : Option CommitInFlight) : (s.withCommit x).rules = s.rules := rfl
@[simp] theorem State.withCommit_records (x : Option CommitInFlight) : (s.withCommit x).records = s.records := rfl
@[simp] theorem State.withCommit_heldLevels (x : Option CommitInFlight) : (s.withCommit x).heldLevels = s.heldLevels := rfl
@[simp] theorem State.withCommit_relaySet (x : Option CommitInFlight) : (s.withCommit x).relaySet = s.relaySet := rfl
@[simp] theorem State.withCommit_contacts (x : Option CommitInFlight) : (s.withCommit x).contacts = s.contacts := rfl
@[simp] theorem State.withCommit_trunk (x : Option CommitInFlight) : (s.withCommit x).trunk = s.trunk := rfl
@[simp] theorem State.withCommit_branch (x : Option CommitInFlight) : (s.withCommit x).branch = s.branch := rfl
@[simp] theorem State.withCommit_responseTimeout (x : Option CommitInFlight) : (s.withCommit x).responseTimeout = s.responseTimeout := rfl
@[simp] theorem State.withCommit_relayQueue (x : Option CommitInFlight) : (s.withCommit x).relayQueue = s.relayQueue := rfl
@[simp] theorem State.withCommit_trunkOut (x : Option CommitInFlight) : (s.withCommit x).trunkOut = s.trunkOut := rfl
@[simp] theorem State.withCommit_txn (x : Option CommitInFlight) : (s.withCommit x).txn = s.txn := rfl
@[simp] theorem State.withCommit_fairness (x : Option CommitInFlight) : (s.withCommit x).fairness = s.fairness := rfl
@[simp] theorem State.withCommit_noResponse (x : Option CommitInFlight) : (s.withCommit x).noResponse = s.noResponse := rfl
@[simp] theorem State.withCommit_globals (x : Option CommitInFlight) : (s.withCommit x).globals = s.globals := rfl
@[simp] theorem State.withCommit_staged (x : Option CommitInFlight) : (s.withCommit x).staged = s.staged := rfl
@[simp] theorem State.withCommit_commit (x : Option CommitInFlight) : (s.withCommit x).commit = x := rfl
@[simp] theorem State.withCommit_restartPending (x : Option CommitInFlight) : (s.withCommit x).restartPending = s.restartPending := rfl
@[simp] theorem State.withCommit_notice (x : Option CommitInFlight) : (s.withCommit x).notice = s.notice := rfl
@[simp] theorem State.withCommit_store (x : Option CommitInFlight) : (s.withCommit x).store = s.store := rfl

@[simp] theorem State.withRestartPending_pending (x : Bool) : (s.withRestartPending x).pending = s.pending := rfl
@[simp] theorem State.withRestartPending_freeCount (x : Bool) : (s.withRestartPending x).freeCount = s.freeCount := rfl
@[simp] theorem State.withRestartPending_plantClock (x : Bool) : (s.withRestartPending x).plantClock = s.plantClock := rfl
@[simp] theorem State.withRestartPending_straps (x : Bool) : (s.withRestartPending x).straps = s.straps := rfl
@[simp] theorem State.withRestartPending_fallback (x : Bool) : (s.withRestartPending x).fallback = s.fallback := rfl
@[simp] theorem State.withRestartPending_coils (x : Bool) : (s.withRestartPending x).coils = s.coils := rfl
@[simp] theorem State.withRestartPending_points (x : Bool) : (s.withRestartPending x).points = s.points := rfl
@[simp] theorem State.withRestartPending_rules (x : Bool) : (s.withRestartPending x).rules = s.rules := rfl
@[simp] theorem State.withRestartPending_records (x : Bool) : (s.withRestartPending x).records = s.records := rfl
@[simp] theorem State.withRestartPending_heldLevels (x : Bool) : (s.withRestartPending x).heldLevels = s.heldLevels := rfl
@[simp] theorem State.withRestartPending_relaySet (x : Bool) : (s.withRestartPending x).relaySet = s.relaySet := rfl
@[simp] theorem State.withRestartPending_contacts (x : Bool) : (s.withRestartPending x).contacts = s.contacts := rfl
@[simp] theorem State.withRestartPending_trunk (x : Bool) : (s.withRestartPending x).trunk = s.trunk := rfl
@[simp] theorem State.withRestartPending_branch (x : Bool) : (s.withRestartPending x).branch = s.branch := rfl
@[simp] theorem State.withRestartPending_responseTimeout (x : Bool) : (s.withRestartPending x).responseTimeout = s.responseTimeout := rfl
@[simp] theorem State.withRestartPending_relayQueue (x : Bool) : (s.withRestartPending x).relayQueue = s.relayQueue := rfl
@[simp] theorem State.withRestartPending_trunkOut (x : Bool) : (s.withRestartPending x).trunkOut = s.trunkOut := rfl
@[simp] theorem State.withRestartPending_txn (x : Bool) : (s.withRestartPending x).txn = s.txn := rfl
@[simp] theorem State.withRestartPending_fairness (x : Bool) : (s.withRestartPending x).fairness = s.fairness := rfl
@[simp] theorem State.withRestartPending_noResponse (x : Bool) : (s.withRestartPending x).noResponse = s.noResponse := rfl
@[simp] theorem State.withRestartPending_globals (x : Bool) : (s.withRestartPending x).globals = s.globals := rfl
@[simp] theorem State.withRestartPending_staged (x : Bool) : (s.withRestartPending x).staged = s.staged := rfl
@[simp] theorem State.withRestartPending_commit (x : Bool) : (s.withRestartPending x).commit = s.commit := rfl
@[simp] theorem State.withRestartPending_restartPending (x : Bool) : (s.withRestartPending x).restartPending = x := rfl
@[simp] theorem State.withRestartPending_notice (x : Bool) : (s.withRestartPending x).notice = s.notice := rfl
@[simp] theorem State.withRestartPending_store (x : Bool) : (s.withRestartPending x).store = s.store := rfl

@[simp] theorem State.withNotice_pending (x : Notice) : (s.withNotice x).pending = s.pending := rfl
@[simp] theorem State.withNotice_freeCount (x : Notice) : (s.withNotice x).freeCount = s.freeCount := rfl
@[simp] theorem State.withNotice_plantClock (x : Notice) : (s.withNotice x).plantClock = s.plantClock := rfl
@[simp] theorem State.withNotice_straps (x : Notice) : (s.withNotice x).straps = s.straps := rfl
@[simp] theorem State.withNotice_fallback (x : Notice) : (s.withNotice x).fallback = s.fallback := rfl
@[simp] theorem State.withNotice_coils (x : Notice) : (s.withNotice x).coils = s.coils := rfl
@[simp] theorem State.withNotice_points (x : Notice) : (s.withNotice x).points = s.points := rfl
@[simp] theorem State.withNotice_rules (x : Notice) : (s.withNotice x).rules = s.rules := rfl
@[simp] theorem State.withNotice_records (x : Notice) : (s.withNotice x).records = s.records := rfl
@[simp] theorem State.withNotice_heldLevels (x : Notice) : (s.withNotice x).heldLevels = s.heldLevels := rfl
@[simp] theorem State.withNotice_relaySet (x : Notice) : (s.withNotice x).relaySet = s.relaySet := rfl
@[simp] theorem State.withNotice_contacts (x : Notice) : (s.withNotice x).contacts = s.contacts := rfl
@[simp] theorem State.withNotice_trunk (x : Notice) : (s.withNotice x).trunk = s.trunk := rfl
@[simp] theorem State.withNotice_branch (x : Notice) : (s.withNotice x).branch = s.branch := rfl
@[simp] theorem State.withNotice_responseTimeout (x : Notice) : (s.withNotice x).responseTimeout = s.responseTimeout := rfl
@[simp] theorem State.withNotice_relayQueue (x : Notice) : (s.withNotice x).relayQueue = s.relayQueue := rfl
@[simp] theorem State.withNotice_trunkOut (x : Notice) : (s.withNotice x).trunkOut = s.trunkOut := rfl
@[simp] theorem State.withNotice_txn (x : Notice) : (s.withNotice x).txn = s.txn := rfl
@[simp] theorem State.withNotice_fairness (x : Notice) : (s.withNotice x).fairness = s.fairness := rfl
@[simp] theorem State.withNotice_noResponse (x : Notice) : (s.withNotice x).noResponse = s.noResponse := rfl
@[simp] theorem State.withNotice_globals (x : Notice) : (s.withNotice x).globals = s.globals := rfl
@[simp] theorem State.withNotice_staged (x : Notice) : (s.withNotice x).staged = s.staged := rfl
@[simp] theorem State.withNotice_commit (x : Notice) : (s.withNotice x).commit = s.commit := rfl
@[simp] theorem State.withNotice_restartPending (x : Notice) : (s.withNotice x).restartPending = s.restartPending := rfl
@[simp] theorem State.withNotice_notice (x : Notice) : (s.withNotice x).notice = x := rfl
@[simp] theorem State.withNotice_store (x : Notice) : (s.withNotice x).store = s.store := rfl

@[simp] theorem State.withStore_pending (x : Store) : (s.withStore x).pending = s.pending := rfl
@[simp] theorem State.withStore_freeCount (x : Store) : (s.withStore x).freeCount = s.freeCount := rfl
@[simp] theorem State.withStore_plantClock (x : Store) : (s.withStore x).plantClock = s.plantClock := rfl
@[simp] theorem State.withStore_straps (x : Store) : (s.withStore x).straps = s.straps := rfl
@[simp] theorem State.withStore_fallback (x : Store) : (s.withStore x).fallback = s.fallback := rfl
@[simp] theorem State.withStore_coils (x : Store) : (s.withStore x).coils = s.coils := rfl
@[simp] theorem State.withStore_points (x : Store) : (s.withStore x).points = s.points := rfl
@[simp] theorem State.withStore_rules (x : Store) : (s.withStore x).rules = s.rules := rfl
@[simp] theorem State.withStore_records (x : Store) : (s.withStore x).records = s.records := rfl
@[simp] theorem State.withStore_heldLevels (x : Store) : (s.withStore x).heldLevels = s.heldLevels := rfl
@[simp] theorem State.withStore_relaySet (x : Store) : (s.withStore x).relaySet = s.relaySet := rfl
@[simp] theorem State.withStore_contacts (x : Store) : (s.withStore x).contacts = s.contacts := rfl
@[simp] theorem State.withStore_trunk (x : Store) : (s.withStore x).trunk = s.trunk := rfl
@[simp] theorem State.withStore_branch (x : Store) : (s.withStore x).branch = s.branch := rfl
@[simp] theorem State.withStore_responseTimeout (x : Store) : (s.withStore x).responseTimeout = s.responseTimeout := rfl
@[simp] theorem State.withStore_relayQueue (x : Store) : (s.withStore x).relayQueue = s.relayQueue := rfl
@[simp] theorem State.withStore_trunkOut (x : Store) : (s.withStore x).trunkOut = s.trunkOut := rfl
@[simp] theorem State.withStore_txn (x : Store) : (s.withStore x).txn = s.txn := rfl
@[simp] theorem State.withStore_fairness (x : Store) : (s.withStore x).fairness = s.fairness := rfl
@[simp] theorem State.withStore_noResponse (x : Store) : (s.withStore x).noResponse = s.noResponse := rfl
@[simp] theorem State.withStore_globals (x : Store) : (s.withStore x).globals = s.globals := rfl
@[simp] theorem State.withStore_staged (x : Store) : (s.withStore x).staged = s.staged := rfl
@[simp] theorem State.withStore_commit (x : Store) : (s.withStore x).commit = s.commit := rfl
@[simp] theorem State.withStore_restartPending (x : Store) : (s.withStore x).restartPending = s.restartPending := rfl
@[simp] theorem State.withStore_notice (x : Store) : (s.withStore x).notice = s.notice := rfl
@[simp] theorem State.withStore_store (x : Store) : (s.withStore x).store = x := rfl

end Sys2Proof.Machine
end

