-- ==== Sys2Proof/Laws/Protection.lean ====
section
/-! SUPPORT. What the operations of coil protection can do: everything they change is owned by the
protection of coils (`sameOutsideProtection`), what each one sets, and the outcome of an evaluation in the
terms of claims (`evaluatesTo_iff`, `evaluatedRecord_iff`, `oatColdOrLost_iff`, `reads_iff`). -/

namespace Sys2Proof.Machine

variable (s : State)

/-! ### sameOutsideProtection as a relation -/

theorem sameOutsideProtection_refl : sameOutsideProtection s s := rfl

theorem sameOutsideProtection_trans {s t u : State} (h : sameOutsideProtection s t)
    (h' : sameOutsideProtection t u) : sameOutsideProtection s u := by
  unfold sameOutsideProtection at *
  rw [h', h]

theorem sameOutsideProtection_foldl {α : Type} (f : State → α → State)
    (h : ∀ s a, sameOutsideProtection s (f s a)) (xs : List α) (s : State) :
    sameOutsideProtection s (xs.foldl f s) := by
  induction xs generalizing s with
  | nil => exact sameOutsideProtection_refl s
  | cons a xs ih => exact sameOutsideProtection_trans (h s a) (ih _)

/-- What is the same outside protection. -/
theorem sameOutsideProtection_fields {s t : State} (h : sameOutsideProtection s t) :
    t.pending = s.pending ∧ t.freeCount = s.freeCount ∧ t.plantClock = s.plantClock ∧
    t.straps = s.straps ∧ t.fallback = s.fallback ∧ t.points = s.points ∧ t.rules = s.rules ∧
    t.relaySet = s.relaySet ∧ t.trunk = s.trunk ∧ t.branch = s.branch ∧
    t.responseTimeout = s.responseTimeout ∧ t.relayQueue = s.relayQueue ∧ t.trunkOut = s.trunkOut ∧
    t.txn = s.txn ∧ t.fairness = s.fairness ∧ t.noResponse = s.noResponse ∧ t.globals = s.globals ∧
    t.staged = s.staged ∧ t.commit = s.commit ∧ t.restartPending = s.restartPending ∧
    t.store = s.store := by
  unfold sameOutsideProtection at h
  rw [h]
  simp

/-! ### The operations of Machine/Ops.lean -/

theorem State.setCoil_same (c : CoilId) (k : Coil) : sameOutsideProtection s (s.setCoil c k) := rfl

theorem State.raiseCoil_same (c : CoilId) : sameOutsideProtection s (s.raiseCoil c) := rfl

theorem State.raiseUrgent_same : sameOutsideProtection s s.raiseUrgent := rfl

theorem State.raiseContactChange_same : sameOutsideProtection s s.raiseContactChange := rfl

theorem State.handLevel_same (c : CoilId) (l : Nat) : sameOutsideProtection s (s.handLevel c l) := rfl

theorem State.releaseDrive_same : sameOutsideProtection s s.releaseDrive := by
  unfold State.releaseDrive
  dsimp only
  split <;> rfl

theorem State.deriveTripOutput_same : sameOutsideProtection s s.deriveTripOutput := by
  unfold State.deriveTripOutput
  split
  · rfl
  · split
    · rfl
    · exact State.releaseDrive_same s

theorem State.changeSense_same (high : Bool) : sameOutsideProtection s (s.changeSense high) := by
  unfold State.changeSense
  dsimp only
  split
  · rfl
  · split <;> rfl

theorem State.expireRelease_same : sameOutsideProtection s s.expireRelease := by
  unfold State.expireRelease
  split <;> rfl

theorem State.handLevelFrom_same (c : CoilId) (old new : Nat) :
    sameOutsideProtection s (s.handLevelFrom c old new) := by
  unfold State.handLevelFrom
  split <;> rfl

theorem State.reportEntry_same (c : CoilId) (new : CoilState) :
    sameOutsideProtection s (s.reportEntry c new) := by
  unfold State.reportEntry
  split <;> rfl

theorem State.enterState_same (c : CoilId) (new : CoilState) (cause : Option Cause) :
    sameOutsideProtection s (s.enterState c new cause) :=
  sameOutsideProtection_trans (State.setCoil_same s c _)
    (sameOutsideProtection_trans (State.handLevelFrom_same _ _ _ _)
      (sameOutsideProtection_trans (State.deriveTripOutput_same _) (State.reportEntry_same _ _ _)))

theorem State.changeCause_same (c : CoilId) (cause : Cause) :
    sameOutsideProtection s (s.changeCause c cause) := by
  unfold State.changeCause
  dsimp only
  split <;> rfl

theorem State.tripCoil_same (c : CoilId) (cause : Cause) :
    sameOutsideProtection s (s.tripCoil c cause) := by
  unfold State.tripCoil
  dsimp only
  split <;> exact sameOutsideProtection_trans (State.setCoil_same s c _) (State.enterState_same _ _ _ _)

theorem State.enterStartup_same (c : CoilId) : sameOutsideProtection s (s.enterStartup c) :=
  sameOutsideProtection_trans (State.setCoil_same s c _) (State.enterState_same _ _ _ _)

theorem State.resetToGuard_same (c : CoilId) : sameOutsideProtection s (s.resetToGuard c) :=
  sameOutsideProtection_trans (State.setCoil_same s c _) (State.enterState_same _ _ _ _)

theorem State.takeOffline_same (c : CoilId) : sameOutsideProtection s (s.takeOffline c) :=
  sameOutsideProtection_trans (State.setCoil_same s c _) (State.enterState_same _ _ _ _)

theorem State.resetCoil_same (c : CoilId) : sameOutsideProtection s (s.resetCoil c) := by
  unfold State.resetCoil
  dsimp only
  split
  · exact sameOutsideProtection_trans (State.setCoil_same s c _) (State.resetToGuard_same _ _)
  · exact State.resetToGuard_same s c

/-! ### The state machine (Machine/Protection.lean) -/

theorem State.actInStartup_same (c : CoilId) (ind : Indication) :
    sameOutsideProtection s (s.actInStartup c ind) := by
  unfold State.actInStartup
  dsimp only
  split
  · split
    · exact State.enterState_same ..
    · split <;> exact State.enterState_same ..
  · rfl

theorem State.actInNormal_same (c : CoilId) (ind : Indication) :
    sameOutsideProtection s (s.actInNormal c ind) := by
  unfold State.actInNormal
  dsimp only
  split
  · exact State.enterState_same ..
  · split
    · exact State.enterState_same ..
    · rfl

theorem State.actInWatch_same (c : CoilId) (ind : Indication) :
    sameOutsideProtection s (s.actInWatch c ind) := by
  unfold State.actInWatch
  dsimp only
  split
  · exact State.enterState_same ..
  · split
    · exact State.enterState_same ..
    · split
      · exact State.changeCause_same ..
      · rfl

theorem State.actInGuard_same (c : CoilId) (ind : Indication) :
    sameOutsideProtection s (s.actInGuard c ind) := by
  unfold State.actInGuard
  dsimp only
  split
  · exact State.changeCause_same ..
  · split
    · exact State.enterState_same ..
    · rfl

theorem State.autoResetStep_same (c : CoilId) (limit timer : Nat) :
    sameOutsideProtection s (s.autoResetStep c limit timer) := by
  unfold State.autoResetStep
  split
  · exact State.resetToGuard_same ..
  · rfl

theorem State.actInTrip_same (c : CoilId) : sameOutsideProtection s (s.actInTrip c) := by
  unfold State.actInTrip
  split
  · rfl
  · exact State.autoResetStep_same ..

theorem State.actUnlatched_same (c : CoilId) (ind : Indication)
    {rule : State → CoilId → Indication → State}
    (h : ∀ s, sameOutsideProtection s (rule s c ind)) :
    sameOutsideProtection s (s.actUnlatched c ind rule) := by
  unfold State.actUnlatched
  split
  · exact State.tripCoil_same ..
  · exact h s

theorem State.takeIndication_same (c : CoilId) (ind : Indication) :
    sameOutsideProtection s (s.takeIndication c ind) := by
  unfold State.takeIndication
  dsimp only
  split
  · rfl
  · exact sameOutsideProtection_trans (State.setCoil_same s c _)
      (State.actUnlatched_same _ c ind (fun s => State.actInStartup_same s c ind))
  · exact sameOutsideProtection_trans (State.setCoil_same s c _)
      (State.actUnlatched_same _ c ind (fun s => State.actInNormal_same s c ind))
  · exact sameOutsideProtection_trans (State.setCoil_same s c _)
      (State.actUnlatched_same _ c ind (fun s => State.actInWatch_same s c ind))
  · exact sameOutsideProtection_trans (State.setCoil_same s c _)
      (State.actUnlatched_same _ c ind (fun s => State.actInGuard_same s c ind))
  · exact sameOutsideProtection_trans (State.setCoil_same s c _) (State.actInTrip_same _ c)
  · rfl

theorem State.evaluateCoil_same (c : CoilId) : sameOutsideProtection s (s.evaluateCoil c) :=
  sameOutsideProtection_trans (State.setCoil_same s c _) (State.takeIndication_same _ c _)

theorem State.takeContactChange_same (i : Fin 16) (c : CoilId) :
    sameOutsideProtection s (s.takeContactChange i c) := by
  unfold State.takeContactChange
  dsimp only
  split
  · split <;> first | rfl | exact State.tripCoil_same ..
  · rfl

/-! ### The contact and trip-line block (Machine/Contacts.lean) -/

theorem State.handContactChange_same (i : Fin 16) : sameOutsideProtection s (s.handContactChange i) := by
  refine sameOutsideProtection_trans
    (sameOutsideProtection_foldl (fun s c => s.takeContactChange i c)
      (fun s c => State.takeContactChange_same s i c) coilIds s) ?_
  exact sameOutsideProtection_trans (State.raiseContactChange_same _) (State.deriveTripOutput_same _)

theorem State.handSense_same (before : ContactBlock) (high : Bool) :
    sameOutsideProtection s (s.handSense before high) := by
  unfold State.handSense
  split
  · exact State.changeSense_same s high
  · rfl

theorem State.handSettling_same (before : ContactBlock) :
    sameOutsideProtection s (s.handSettling before) := by
  unfold State.handSettling
  split
  · rfl
  · exact State.deriveTripOutput_same s

theorem State.handRelease_same (before : ContactBlock) :
    sameOutsideProtection s (s.handRelease before) := by
  unfold State.handRelease
  split
  · exact State.expireRelease_same s
  · rfl

theorem State.handTick_same (before : ContactBlock) (high : Bool) :
    sameOutsideProtection s (s.handTick before high) :=
  sameOutsideProtection_trans (State.handSense_same s before high)
    (sameOutsideProtection_trans
      (sameOutsideProtection_foldl State.handContactChange State.handContactChange_same _ _)
      (sameOutsideProtection_trans (State.handSettling_same _ _) (State.handRelease_same _ _)))

theorem execTick_same (pins : BitVec 16) (high : Bool) :
    ∃ t, execTick pins high s = .next t ∧ sameOutsideProtection s t := by
  refine ⟨_, rfl, ?_⟩
  exact sameOutsideProtection_trans
    (t := (s.withContacts (s.contacts.sampled s.globals.contactDebounce pins high)).countModeration) rfl
    (State.handTick_same _ _ _)

/-! ### An evaluation in the terms of claims -/

theorem reading_iff {e : PointEntry} {v : Int} : e.reading = some v ↔ validReading e v := by
  unfold PointEntry.reading validReading
  by_cases h : e.rt.state = .valid
  · simp only [h, if_true, true_and, Option.map_eq_some_iff]
    exact ⟨fun ⟨a, ha, hv⟩ => ⟨a, ha, hv.symm⟩, fun ⟨a, ha, hv⟩ => ⟨a, ha, hv.symm⟩⟩
  · simp [h]

theorem reading_isSome (e : PointEntry) :
    e.reading.isSome = (e.rt.state == .valid && e.rt.lastValue.isSome) := by
  unfold PointEntry.reading
  by_cases h : e.rt.state = .valid <;> simp [h]

theorem mem_entries {points : List (Option PointEntry)} {e : PointEntry} :
    e ∈ points.filterMap id ↔ some e ∈ points := by
  simp

theorem isFace_iff (r : Sys2Proof.Role) : Role.isFace r = true ↔ ∃ i, r = .face i := by
  cases r <;> simp [Role.isFace]

theorem isWater_iff (r : Sys2Proof.Role) : Role.isWater r = true ↔ r = .water := by
  cases r <;> simp [Role.isWater]

/-- The first occupied entry of a table with a property is the first in index order. -/
theorem find_firstPoint (wanted : PointConfig → Prop) (test : PointEntry → Bool)
    (h : ∀ e, test e = true ↔ wanted e.cfg) :
    firstPoint s wanted ((s.points.filterMap id).find? test) := by
  suffices H : ∀ points : List (Option PointEntry),
      match (points.filterMap id).find? test with
      | none => ∀ e, some e ∈ points → ¬ wanted e.cfg
      | some e => ∃ i : Nat, points[i]? = some (some e) ∧ wanted e.cfg ∧
          ∀ j e', j < i → points[j]? = some (some e') → ¬ wanted e'.cfg by
    have := H s.points
    split at this <;> rename_i hf <;> rw [hf] <;> exact this
  intro points
  induction points with
  | nil => simp
  | cons o rest ih =>
    cases o with
    | none =>
      rw [show (none :: rest).filterMap id = rest.filterMap id from rfl]
      cases hf : (rest.filterMap id).find? test <;> simp only [hf] at ih ⊢
      · intro e he
        exact ih e (by simpa using he)
      · obtain ⟨i, hi, hw, hl⟩ := ih
        refine ⟨i + 1, by simpa using hi, hw, fun j e' hj he' => ?_⟩
        cases j with
        | zero => simp at he'
        | succ j => exact hl j e' (by omega) (by simpa using he')
    | some x =>
      rw [show (some x :: rest).filterMap id = x :: rest.filterMap id from rfl, List.find?_cons]
      by_cases hx : test x = true
      · simp only [hx]
        exact ⟨0, rfl, (h x).mp hx, fun j _ hj _ => absurd hj (by omega)⟩
      · simp only [Bool.not_eq_true] at hx
        have hnx : ¬ wanted x.cfg := fun hw => by simp [(h x).mpr hw] at hx
        simp only [hx]
        cases hf : (rest.filterMap id).find? test <;> simp only [hf] at ih ⊢
        · intro e he
          rcases List.mem_cons.mp he with he | he
          · cases he; exact hnx
          · exact ih e he
        · obtain ⟨i, hi, hw, hl⟩ := ih
          refine ⟨i + 1, by simpa using hi, hw, fun j e' hj he' => ?_⟩
          cases j with
          | zero => cases (by simpa using he' : x = e'); exact hnx
          | succ j => exact hl j e' (by omega) (by simpa using he')

theorem foldl_min_spec (vs : List Int) (v : Int) :
    vs.foldl min v ∈ v :: vs ∧ ∀ x ∈ v :: vs, vs.foldl min v ≤ x := by
  induction vs generalizing v with
  | nil => simp
  | cons a vs ih =>
    obtain ⟨hm, hl⟩ := ih (min v a)
    have hle := hl (min v a) (by simp)
    rw [List.foldl_cons]
    refine ⟨?_, fun x hx => ?_⟩
    · rcases List.mem_cons.mp hm with h | h
      · rw [h]
        rcases Int.le_total v a with hva | hva
        · simp [Int.min_eq_left hva]
        · simp [Int.min_eq_right hva]
      · simp [h]
    · rcases List.mem_cons.mp hx with rfl | hx
      · omega
      · rcases List.mem_cons.mp hx with rfl | hx
        · omega
        · exact hl x (List.mem_cons_of_mem _ hx)

theorem faceTemperature_least (k : CoilConfig) (values : List Int) (least : Int) (hm : least ∈ values)
    (hl : ∀ v ∈ values, least ≤ v) :
    faceTemperature k values = some (saturate16
      (if k.faceQuorum ≤ values.length then least else least - k.degradeMargin)) := by
  cases values with
  | nil => simp at hm
  | cons v vs =>
    obtain ⟨h1, h2⟩ := foldl_min_spec vs v
    have : vs.foldl min v = least := Int.le_antisymm (h2 _ hm) (hl _ h1)
    simp only [faceTemperature, this]
    split <;> rfl

/-- The stored results are those of R42 to R50. -/
theorem evaluated_stored (k : CoilConfig) (values : List Int) (water : Option PointEntry)
    (before : EvalRuntime) : StoredResults k values water before (evaluated k values water before) where
  count := rfl
  faceUnknown h := by subst h; rfl
  face least hm hl := faceTemperature_least k values least hm hl
  degraded := by cases values <;> simp [evaluated]
  waterKnown e v hw hv := by
    subst hw
    simp [evaluated, waterTemperature, reading_iff.mpr hv]
  waterUnknown h := by
    cases water with
    | none => rfl
    | some e =>
      have : e.reading = none := by
        cases hr : e.reading with
        | none => rfl
        | some v => exact absurd (reading_iff.mp hr) (h e v rfl)
      simp [evaluated, waterTemperature, this]
  waterInPlace := by cases water <;> simp [evaluated, waterIsInPlace]
  margin := rfl
  sensingLost := by simp [evaluated]
  ringEmptied h := by
    simp only [evaluated] at h ⊢
    rw [h]
    exact ⟨rfl, rfl⟩
  ring f h := by
    simp only [evaluated] at h ⊢
    rw [h]
    simp only [ringAfter, Config.ringCapacity]
    split
    · rw [show before.ring.length + 1 - 8 = 0 by omega, List.drop_zero]
    · rfl
  slopeFlat h hr := by
    simp only [evaluated] at h hr ⊢
    cases hf : faceTemperature k values with
    | none => exact absurd hf h
    | some f =>
      rw [hf] at hr
      simp [slopeOf, hr]
  slope f oldest h ho hr := by
    simp only [evaluated] at h ho hr ⊢
    rw [h] at ho hr ⊢
    have hlast : (ringAfter before.ring (some f)).getLastD 0 = f := by
      simp only [ringAfter]
      split
      · simp
      · rename_i hlt
        rw [List.getLastD_eq_getLast?, List.getLast?_drop, if_neg (by simp)]
        simp
    have hhead : (ringAfter before.ring (some f)).headD 0 = oldest := by
      rw [List.headD_eq_head?_getD, ho]; rfl
    simp only [slopeOf, if_neg (Nat.not_lt.mpr hr), hlast, hhead]
  predicted m sl hm hs := by
    simp only [evaluated] at hm hs ⊢
    rw [hm, hs]; rfl
  predictedWithoutSlope m hm hs := by
    simp only [evaluated] at hm hs ⊢
    rw [hm, hs]; rfl
  predictedUnknown h := by
    simp only [evaluated] at h ⊢
    rw [h]
    exact ⟨rfl, rfl⟩
  doseGrows mp h hn := by
    simp only [evaluated] at h ⊢
    rw [h]
    simp only [doseAfter, if_pos hn]
    omega
  doseShed mp h hn := by
    simp only [evaluated] at h ⊢
    rw [h]
    simp only [doseAfter, if_neg (Int.not_lt.mpr hn)]
    omega

theorem faceValues_length (c : CoilId) :
    (s.faceValues c).length = ((s.points.filterMap id).filter (fun e => e.cfg.owner == .coil c &&
      Machine.Role.isFace e.cfg.role && e.rt.state == .valid && e.rt.lastValue.isSome)).length := by
  unfold State.faceValues State.ownedBy
  generalize s.points.filterMap id = entries
  induction entries with
  | nil => rfl
  | cons e rest ih =>
    have hr := reading_isSome e
    by_cases ho : (e.cfg.owner == .coil c && Role.isFace e.cfg.role) = true
    · rw [List.filter_cons_of_pos (by simpa using ho), List.filterMap_cons]
      cases hv : e.reading with
      | none =>
        rw [hv] at hr
        rw [List.filter_cons_of_neg (by rw [Bool.and_assoc, ho, ← hr]; simp)]
        exact ih
      | some v =>
        rw [hv] at hr
        rw [List.filter_cons_of_pos (by rw [Bool.and_assoc, ho, ← hr]; rfl), List.length_cons,
          List.length_cons, ih]
    · rw [List.filter_cons_of_neg (by simpa using ho), List.filter_cons_of_neg (by
        simp only [Bool.not_eq_true] at ho
        rw [Bool.and_assoc, ho]; simp)]
      exact ih

theorem mem_readings {entries : List PointEntry} {v : Int} :
    v ∈ entries.filterMap PointEntry.reading ↔ ∃ e ∈ entries, e.reading = some v :=
  List.mem_filterMap

theorem mem_faceValues (c : CoilId) (v : Int) :
    v ∈ s.faceValues c ↔ ∃ e, some e ∈ s.points ∧ e.cfg.owner = .coil c ∧
      (∃ i, e.cfg.role = .face i) ∧ validReading e v := by
  simp only [State.faceValues, State.ownedBy, List.mem_filter, mem_entries, mem_readings, reading_iff,
    Bool.and_eq_true, beq_iff_eq, isFace_iff]
  exact ⟨fun ⟨e, ⟨h, ho, hf⟩, hv⟩ => ⟨e, h, ho, hf, hv⟩, fun ⟨e, h, ho, hf, hv⟩ => ⟨e, ⟨h, ho, hf⟩, hv⟩⟩

theorem waterEntry_firstPoint (c : CoilId) :
    firstPoint s (fun p => p.owner = .coil c ∧ p.role = .water) (s.waterEntry c) := by
  unfold State.waterEntry State.ownedBy
  rw [List.head?_filter]
  exact find_firstPoint s _ _ (fun e => by simp [isWater_iff])

/-- The model's results of an evaluation are results of that evaluation. -/
theorem evaluatedCoil_evaluates (c : CoilId) : EvaluatesTo s c (s.evaluatedCoil c) :=
  ⟨s.faceValues c, s.waterEntry c, faceValues_length s c, mem_faceValues s c, waterEntry_firstPoint s c,
    evaluated_stored _ _ _ _⟩

theorem firstPoint_unique {wanted : PointConfig → Prop} {a b : Option PointEntry}
    (ha : firstPoint s wanted a) (hb : firstPoint s wanted b) : a = b := by
  cases a with
  | none =>
    cases b with
    | none => rfl
    | some y =>
      obtain ⟨i, hi, hw, -⟩ := hb
      exact absurd hw (ha y (List.mem_of_getElem? hi))
  | some x =>
    obtain ⟨i, hi, hw, hl⟩ := ha
    cases b with
    | none => exact absurd hw (hb x (List.mem_of_getElem? hi))
    | some y =>
      obtain ⟨j, hj, hw', hl'⟩ := hb
      rcases Nat.lt_trichotomy i j with h | h | h
      · exact absurd hw (hl' i x h hi)
      · subst h
        rw [hi] at hj
        cases hj; rfl
      · exact absurd hw' (hl j y h hj)

theorem oatColdOrLost_iff (limit : Int) : s.oatColdOrLost limit = true ↔ outdoorColdOrLost s limit := by
  have hf : firstPoint s (fun p => p.role = .oat) s.oatEntry :=
    find_firstPoint s _ _ (fun e => by simp)
  unfold State.oatColdOrLost outdoorColdOrLost
  constructor
  · intro h e v he hv
    rw [← firstPoint_unique s he hf] at h
    simpa [reading_iff.mpr hv] using h
  · intro h
    cases ho : s.oatEntry with
    | none => rfl
    | some e =>
      cases hr : e.reading with
      | none => simp [hr]
      | some v =>
        simpa [hr] using h e v (ho ▸ hf) (reading_iff.mp hr)

/-- A contact input reads a state exactly when the model's reading is that. -/
theorem reads_iff (b : ContactBlock) (i : Fin 16) (c : ContactState) :
    b.reads i = some c ↔ inputReads b i c := by
  unfold ContactBlock.reads inputReads
  cases b.settled <;> simp

theorem exists_least {values : List Int} (h : values ≠ []) : ∃ m ∈ values, ∀ v ∈ values, m ≤ v := by
  cases values with
  | nil => exact absurd rfl h
  | cons v vs => exact ⟨_, (foldl_min_spec vs v).1, (foldl_min_spec vs v).2⟩

/-- The stored results depend on the values alone, whatever their order. -/
theorem storedResults_unique {k : CoilConfig} {xs ys : List Int} {water : Option PointEntry}
    {before a b : EvalRuntime} (hl : xs.length = ys.length) (hm : ∀ v, v ∈ xs ↔ v ∈ ys)
    (ha : StoredResults k xs water before a) (hb : StoredResults k ys water before b) : a = b := by
  have hn : a.n = b.n := by rw [ha.count, hb.count, hl]
  have htf : a.tf = b.tf := by
    by_cases hx : xs = []
    · have hy : ys = [] := List.length_eq_zero_iff.mp (by rw [← hl, hx]; rfl)
      rw [ha.faceUnknown hx, hb.faceUnknown hy]
    · obtain ⟨m, h1, h2⟩ := exists_least hx
      rw [ha.face m h1 h2, hb.face m ((hm m).mp h1) (fun v hv => h2 v ((hm v).mpr hv)), hl]
  have htw : a.tw = b.tw := by
    by_cases h : ∃ e v, water = some e ∧ validReading e v
    · obtain ⟨e, v, he, hv⟩ := h
      rw [ha.waterKnown e v he hv, hb.waterKnown e v he hv]
    · have h' : ∀ e v, water = some e → ¬ validReading e v := fun e v he hv => h ⟨e, v, he, hv⟩
      rw [ha.waterUnknown h', hb.waterUnknown h']
  have hmm : a.m = b.m := by rw [ha.margin, hb.margin, htf, htw]
  have hr : a.ring = b.ring ∧ a.slope = b.slope := by
    cases hf : a.tf with
    | none =>
      have hf' : b.tf = none := by rw [← htf, hf]
      rw [(ha.ringEmptied hf).1, (ha.ringEmptied hf).2, (hb.ringEmptied hf').1, (hb.ringEmptied hf').2]
      exact ⟨rfl, rfl⟩
    | some f =>
      have hf' : b.tf = some f := by rw [← htf, hf]
      have hring : a.ring = b.ring := by rw [ha.ring f hf, hb.ring f hf']
      refine ⟨hring, ?_⟩
      by_cases h4 : a.ring.length < 4
      · rw [ha.slopeFlat (by simp [hf]) h4, hb.slopeFlat (by simp [hf']) (hring ▸ h4)]
      · cases hh : a.ring.head? with
        | none => simp [List.head?_eq_none_iff.mp hh] at h4
        | some o =>
          rw [ha.slope f o hf hh (by omega), hb.slope f o hf' (hring ▸ hh) (by rw [← hring]; omega), hring]
  have hmp : a.mp = b.mp ∧ a.dose = b.dose := by
    cases h : a.m with
    | none =>
      have h' : b.m = none := by rw [← hmm, h]
      exact ⟨by rw [(ha.predictedUnknown h).1, (hb.predictedUnknown h').1],
        by rw [(ha.predictedUnknown h).2, (hb.predictedUnknown h').2]⟩
    | some m =>
      have h' : b.m = some m := by rw [← hmm, h]
      have hp : a.mp = b.mp ∧ ∃ x, a.mp = some x := by
        cases hs : a.slope with
        | none =>
          rw [ha.predictedWithoutSlope m h hs, hb.predictedWithoutSlope m h' (by rw [← hr.2, hs])]
          exact ⟨rfl, _, rfl⟩
        | some sl =>
          rw [ha.predicted m sl h hs, hb.predicted m sl h' (by rw [← hr.2, hs])]
          exact ⟨rfl, _, rfl⟩
      obtain ⟨he, x, hx⟩ := hp
      refine ⟨he, ?_⟩
      have hx' : b.mp = some x := by rw [← he, hx]
      rcases Int.lt_or_le x 0 with h0 | h0
      · have h1 := ha.doseGrows x hx h0
        have h2 := hb.doseGrows x hx' h0
        omega
      · have h1 := ha.doseShed x hx h0
        have h2 := hb.doseShed x hx' h0
        omega
  have hnil : xs = [] ↔ ys = [] := by
    rw [← List.length_eq_zero_iff, ← List.length_eq_zero_iff, hl]
  have hd : a.degraded = b.degraded := Bool.eq_iff_iff.mpr (by rw [ha.degraded, hb.degraded, hl, hnil])
  have hsl : a.sensingLost = b.sensingLost :=
    Bool.eq_iff_iff.mpr (by rw [ha.sensingLost, hb.sensingLost, hmm])
  have hwp : a.waterInPlace = b.waterInPlace :=
    Bool.eq_iff_iff.mpr (by rw [ha.waterInPlace, hb.waterInPlace])
  cases a
  cases b
  simp_all

/-- An evaluation has one outcome: the model's. -/
theorem evaluatesTo_iff (c : CoilId) (e : EvalRuntime) : EvaluatesTo s c e ↔ e = s.evaluatedCoil c := by
  constructor
  · rintro ⟨values, water, hl, hm, hw, hs⟩
    cases firstPoint_unique s hw (waterEntry_firstPoint s c)
    exact storedResults_unique (by rw [hl, faceValues_length])
      (fun v => by rw [hm, mem_faceValues]) hs (evaluated_stored _ _ _ _)
  · rintro rfl
    exact evaluatedCoil_evaluates s c

/-- An evaluated record is the model's: results stored, timers and COLD-WEATHER set. -/
theorem evaluatedRecord_iff (c : CoilId) (k : Coil) :
    EvaluatedRecord s c k ↔ k = advanceTimers (s.coldWeatherFor (s.coil c).cfg)
      { s.coil c with eval := s.evaluatedCoil c } := by
  have hcold : s.coldWeatherFor (s.coil c).cfg = true ↔
      ∃ limit, (s.coil c).cfg.coldWeatherOat = some limit ∧ outdoorColdOrLost s limit := by
    unfold State.coldWeatherFor
    cases (s.coil c).cfg.coldWeatherOat <;> simp [oatColdOrLost_iff]
  constructor
  · rintro ⟨hr, hk, hw⟩
    rw [evaluatesTo_iff] at hr
    rw [← hcold, ← Bool.eq_iff_iff] at hw
    rw [hk, hr, hw]
    rfl
  · rintro rfl
    exact ⟨evaluatedCoil_evaluates s c, rfl, hcold⟩

end Sys2Proof.Machine
end

