-- ==== Sys2Proof/Laws/Traffic.lean ====
section
/-! SUPPORT. What the operations of the ports, the relay and the branch transaction can do: everything
they change is owned by line traffic (`sameOutsideTraffic`). -/

namespace Sys2Proof.Machine

variable (s : State)

/-! ### sameOutsideTraffic as a relation -/

theorem sameOutsideTraffic_refl : sameOutsideTraffic s s := rfl

theorem sameOutsideTraffic_trans {s t u : State} (h : sameOutsideTraffic s t)
    (h' : sameOutsideTraffic t u) : sameOutsideTraffic s u := by
  unfold sameOutsideTraffic at *
  rw [h', h]

/-- What is the same outside traffic. -/
theorem sameOutsideTraffic_fields {s t : State} (h : sameOutsideTraffic s t) :
    t.pending = s.pending ∧ t.freeCount = s.freeCount ∧ t.plantClock = s.plantClock ∧
    t.straps = s.straps ∧ t.fallback = s.fallback ∧ t.coils = s.coils ∧ t.rules = s.rules ∧
    t.heldLevels = s.heldLevels ∧ t.relaySet = s.relaySet ∧ t.contacts = s.contacts ∧
    t.responseTimeout = s.responseTimeout ∧ t.globals = s.globals ∧
    t.staged = s.staged ∧ t.commit = s.commit ∧ t.restartPending = s.restartPending ∧
    t.store = s.store := by
  unfold sameOutsideTraffic at h
  rw [h]
  simp

/-! ### Ports and the trunk output list -/

theorem State.updatePort_traffic (p : PortId) (f : Port → Port) :
    sameOutsideTraffic s (s.updatePort p f) := by
  cases p <;> rfl

theorem State.count_traffic (p : PortId) (f : Counters → Counters) :
    sameOutsideTraffic s (s.count p f) := State.updatePort_traffic s p _

theorem State.raisePortRestart_traffic : sameOutsideTraffic s s.raisePortRestart := rfl

theorem State.reservePlace_traffic : sameOutsideTraffic s s.reservePlace := rfl

theorem State.fillReserved_traffic (t : OutTelegram) : sameOutsideTraffic s (s.fillReserved t) := rfl

theorem State.fillFreeOrDrop_traffic (t : Telegram) : sameOutsideTraffic s (s.fillFreeOrDrop t) := by
  unfold State.fillFreeOrDrop
  split
  · rfl
  · exact State.count_traffic ..

/-! ### The branch transaction (Machine/Branch.lean) -/

theorem State.ownSetFails_traffic (station channel : Nat) :
    sameOutsideTraffic s (s.ownSetFails station channel) := by
  unfold State.ownSetFails
  split
  · rfl
  · dsimp only
    split <;> rfl

theorem State.ownSetResult_traffic (station channel : Nat) (live : Bool) (r : TxnResult) :
    sameOutsideTraffic s (s.ownSetResult station channel live r) := by
  unfold State.ownSetResult
  split
  · rfl
  · split
    · exact State.ownSetFails_traffic ..
    · rfl

theorem State.deliverResult_traffic (t : Transaction) (r : TxnResult) :
    sameOutsideTraffic s (s.deliverResult t r) := by
  unfold State.deliverResult
  split
  · rfl
  · exact State.ownSetResult_traffic ..
  · rfl

theorem State.endTransaction_traffic (r : TxnResult) : sameOutsideTraffic s (s.endTransaction r) := by
  unfold State.endTransaction
  split
  · exact sameOutsideTraffic_trans (State.deliverResult_traffic s _ r) rfl
  · rfl

theorem State.endIfReceiving_traffic (r : TxnResult) : sameOutsideTraffic s (s.endIfReceiving r) := by
  unfold State.endIfReceiving
  split
  · exact State.endTransaction_traffic ..
  · rfl

theorem State.movePhase_traffic (p : TxnPhase) : sameOutsideTraffic s (s.movePhase p) := by
  unfold State.movePhase
  split <;> rfl

theorem State.formRequest_traffic (g : Grant) : sameOutsideTraffic s (s.formRequest g).1 := by
  unfold State.formRequest
  split
  · rfl
  · split <;> rfl
  · rfl

theorem State.beginTransaction_traffic (request : Telegram) (origin : TxnOrigin) :
    sameOutsideTraffic s (s.beginTransaction request origin) := rfl

theorem State.grant_traffic (g : Grant) : sameOutsideTraffic s (s.grant g) :=
  sameOutsideTraffic_trans (State.formRequest_traffic s g)
    (sameOutsideTraffic_trans
      (t := (s.formRequest g).1.withFairness (fairnessAfter s.fairness g)) rfl
      (State.beginTransaction_traffic _ _ _))

theorem State.branchLeft_traffic : sameOutsideTraffic s s.branchLeft :=
  sameOutsideTraffic_trans (State.updatePort_traffic s .branch _) (State.movePhase_traffic _ _)

theorem State.lineFaults_traffic : sameOutsideTraffic s s.lineFaults :=
  sameOutsideTraffic_trans (State.updatePort_traffic s .branch _)
    (sameOutsideTraffic_trans (State.count_traffic _ .branch _) (State.endTransaction_traffic _ _))

theorem State.endBreak_traffic : sameOutsideTraffic s s.endBreak :=
  sameOutsideTraffic_trans (State.updatePort_traffic s .branch _) (State.movePhase_traffic _ _)

theorem State.countTurnaround_traffic : sameOutsideTraffic s s.countTurnaround := by
  unfold State.countTurnaround
  split
  · split <;> rfl
  · rfl

/-! ### Receivers (Machine/Receiver.lean) -/

theorem State.telegramError_traffic (p : PortId) : sameOutsideTraffic s (s.telegramError p) := by
  unfold State.telegramError
  split
  · exact State.updatePort_traffic ..
  · exact sameOutsideTraffic_trans (State.updatePort_traffic s p _) (State.raisePortRestart_traffic _)

theorem State.discardInAssembly_traffic (p : PortId) : sameOutsideTraffic s (s.discardInAssembly p) := by
  unfold State.discardInAssembly
  split
  · exact State.telegramError_traffic ..
  · exact sameOutsideTraffic_trans (State.endIfReceiving_traffic s _) (State.telegramError_traffic _ _)

theorem State.takeRelayCandidate_traffic (t : Telegram) :
    sameOutsideTraffic s (s.takeRelayCandidate t) := by
  unfold State.takeRelayCandidate
  split
  · rfl
  · exact State.fillFreeOrDrop_traffic ..

theorem State.judgeAnswer_traffic (t : Telegram) : sameOutsideTraffic s (s.judgeAnswer t) := by
  unfold State.judgeAnswer
  split
  · exact State.endTransaction_traffic ..
  · rfl

theorem State.branchIntake_traffic (t : Telegram) : sameOutsideTraffic s (s.branchIntake t) := by
  unfold State.branchIntake
  dsimp only
  refine sameOutsideTraffic_trans ?_ (State.judgeAnswer_traffic _ t)
  split
  · rfl
  · split <;> rfl

theorem State.discardAddress_traffic (p : PortId) : sameOutsideTraffic s (s.discardAddress p) := by
  unfold State.discardAddress
  dsimp only
  split
  · exact State.count_traffic ..
  · exact sameOutsideTraffic_trans (State.count_traffic s _ _) (State.endIfReceiving_traffic _ _)

theorem State.gapExpires_traffic (p : PortId) : sameOutsideTraffic s (s.gapExpires p) :=
  sameOutsideTraffic_trans (State.updatePort_traffic s p _)
    (sameOutsideTraffic_trans (State.count_traffic _ p _) (State.discardInAssembly_traffic _ p))

/-! ### The trunk transmitter (Machine/Ports.lean) -/

theorem State.noticeLost_traffic (o : TxOwner) : sameOutsideTraffic s (s.noticeLost o) := by
  unfold State.noticeLost
  split <;> rfl

theorem State.collide_traffic (t : Transmission) : sameOutsideTraffic s (s.collide t) :=
  sameOutsideTraffic_trans (State.updatePort_traffic s .trunk _)
    (sameOutsideTraffic_trans (State.count_traffic _ .trunk _) (State.noticeLost_traffic _ _))

end Sys2Proof.Machine
end

