-- ==== Sys2Proof/Laws/Ops.lean ====
section
/-! SUPPORT. One lemma for each shared operation that says everything it can do, for proofs to cite
instead of unfolding it. -/

namespace Sys2Proof.Machine

variable (s : State)

/-! ### Numbers and tables -/

theorem clampInt_eq {lo hi : Int} (h : lo ≤ hi) (z : Int) : clampInt lo hi z = max lo (min hi z) := by
  unfold clampInt
  split
  · omega
  · split <;> omega

theorem clampNat_eq {lo hi : Nat} (h : lo ≤ hi) (n : Nat) : clampNat lo hi n = max lo (min hi n) := by
  unfold clampNat
  split
  · omega
  · split <;> omega

theorem appendTrip_eq (history : List Nat) (t : Nat) :
    appendTrip history t = (history ++ [t]).drop (history.length + 1 - 4) := by
  unfold appendTrip
  split
  · rename_i h
    have h : history.length < 4 := h
    rw [show history.length + 1 - 4 = 0 by omega, List.drop_zero]
  · rfl

theorem ringAfter_eq (ring : List Int) (v : Int) :
    ringAfter ring (some v) = (ring ++ [v]).drop (ring.length + 1 - 8) := by
  simp only [ringAfter]
  split
  · rename_i h
    have h : ring.length < 8 := h
    rw [show ring.length + 1 - 8 = 0 by omega, List.drop_zero]
  · rfl

/-- An entry of a table is what stands at its index. -/
theorem entryAt_eq_some {α : Type} {table : List (Option α)} {i : Nat} {a : α} :
    entryAt table i = some a ↔ table[i]? = some (some a) := by
  unfold entryAt
  cases h : table[i]? with
  | none => simp
  | some o => cases o <;> simp

/-- The lowest free index. -/
theorem lowestFree_eq_some {α : Type} {table : List (Option α)} {i : Nat} :
    lowestFree table = some i ↔
      table[i]? = some none ∧ ∀ j, j < i → table[j]? ≠ some none := by
  unfold lowestFree
  rw [List.findIdx?_eq_some_iff_getElem]
  constructor
  · rintro ⟨h, h1, h2⟩
    refine ⟨?_, ?_⟩
    · rw [List.getElem?_eq_getElem h]
      simpa using h1
    · intro j hj hn
      have := h2 j hj
      rw [List.getElem?_eq_getElem (by omega)] at hn
      simp only [Option.some.injEq] at hn
      rw [hn] at this
      simp at this
  · rintro ⟨h1, h2⟩
    obtain ⟨hi, hv⟩ := List.getElem?_eq_some_iff.mp h1
    refine ⟨hi, by simp [hv], ?_⟩
    intro j hj
    have := h2 j hj
    rw [List.getElem?_eq_getElem (by omega)] at this
    simp only [ne_eq, Option.some.injEq] at this
    simpa [Option.isNone_iff_eq_none] using this

/-- No index is free. -/
theorem lowestFree_eq_none {α : Type} {table : List (Option α)} :
    lowestFree table = none ↔ none ∉ table := by
  unfold lowestFree
  rw [List.findIdx?_eq_none_iff]
  constructor
  · intro h hn
    have := h _ hn
    simp at this
  · intro h x hx
    cases x with
    | none => exact absurd hx h
    | some a => rfl

/-! ### Coil records -/

theorem State.coil_setCoil (c : CoilId) (k : Coil) (h : c.val < s.coils.length) :
    (s.setCoil c k).coil c = k := by
  simp [State.coil, State.setCoil, List.getD, h]

theorem State.coil_setCoil_ne {c d : CoilId} (k : Coil) (h : d ≠ c) :
    (s.setCoil c k).coil d = s.coil d := by
  have : c.val ≠ d.val := fun e => h (Fin.ext e.symm)
  simp [State.coil, State.setCoil, List.getD, List.getElem?_set_ne this]

theorem State.setCoil_setCoil (c : CoilId) (k k' : Coil) :
    (s.setCoil c k).setCoil c k' = s.setCoil c k' := by
  simp [State.setCoil, State.withCoils]

/-! ### The trip output (R114, R118) -/

theorem State.deriveTripOutput_eq : s.deriveTripOutput =
    { s with
      contacts := s.contacts.driveAfter s.globals.plantTripRelease s.wantsDrive,
      notice := { s.notice with
        plantTripEvent := plantTripEventAfter s.contacts
          (s.contacts.driveAfter s.globals.plantTripRelease s.wantsDrive) s.notice.plantTripEvent } } := by
  unfold State.deriveTripOutput ContactBlock.driveAfter
  split
  · simp [plantTripEventAfter]
  · split
    · simp [plantTripEventAfter, State.withContacts]
    · simp only [State.releaseDrive]
      split
      · rename_i h
        simp [plantTripEventAfter, State.startReleasing, State.raisePlantTripEvent, State.withContacts,
          State.withNotice, h]
      · simp [plantTripEventAfter, State.withContacts]

/-- The trip output is derived from coils, fallback and contacts only. -/
theorem State.wantsDrive_congr {s t : State} (h1 : t.coils = s.coils) (h2 : t.fallback = s.fallback)
    (h3 : t.contacts.inputs = s.contacts.inputs) (h4 : t.contacts.settled = s.contacts.settled) :
    t.wantsDrive = s.wantsDrive := by
  simp [State.wantsDrive, ContactBlock.anyReadsOpen, h1, h2, h3, h4]

theorem ContactBlock.driveAfter_driven (b : ContactBlock) (period : Nat) (want : Bool) :
    (b.driveAfter period want).driven = want := by
  unfold ContactBlock.driveAfter
  split
  · rename_i h; exact h.symm
  · split
    · rename_i h; exact h.symm
    · rename_i h
      simp only [Bool.not_eq_true] at h
      split <;> exact h.symm

theorem ContactBlock.driveAfter_inputs (b : ContactBlock) (period : Nat) (want : Bool) :
    (b.driveAfter period want).inputs = b.inputs ∧ (b.driveAfter period want).settled = b.settled ∧
    (b.driveAfter period want).ticks = b.ticks := by
  unfold ContactBlock.driveAfter
  split
  · simp
  · split
    · simp
    · split <;> simp

theorem State.deriveTripOutput_wantsDrive : s.deriveTripOutput.wantsDrive = s.wantsDrive := by
  rw [State.deriveTripOutput_eq]
  exact State.wantsDrive_congr rfl rfl (ContactBlock.driveAfter_inputs _ _ _).1
    (ContactBlock.driveAfter_inputs _ _ _).2.1

theorem State.deriveTripOutput_driven : s.deriveTripOutput.contacts.driven = s.wantsDrive := by
  rw [State.deriveTripOutput_eq]
  exact ContactBlock.driveAfter_driven _ _ _

/-! ### Changes of a coil's state (R60, R65, R68, R76) -/

/-- The levels after a hand-over, whether or not the level differs. -/
theorem State.handLevelFrom_eq (c : CoilId) (old new : Nat) : s.handLevelFrom c old new =
    { s with
      heldLevels := if new = old then s.heldLevels else s.heldLevels.set c.val new,
      records := if new = old then s.records else s.recordsAfterLevel c (s.heldLevels.set c.val new) } := by
  unfold State.handLevelFrom
  split
  · rfl
  · rfl

/-- What the report of an entry into a state does to the notice pending state. -/
theorem State.reportEntry_eq (c : CoilId) (new : CoilState) : s.reportEntry c new =
    { s with notice := { s.notice with
      coils := s.notice.coils.set c.val .set,
      urgent := if new.latched then .set else s.notice.urgent } } := by
  unfold State.reportEntry
  split <;> rename_i h <;>
    simp [State.raiseUrgent, State.raiseCoil, State.withNotice]

/-- Everything a change of a coil's state does, its record having been made `k` before (R60). -/
theorem State.enterState_entered (c : CoilId) (k : Coil) (new : CoilState) (cause : Option Cause)
    (h : c.val < s.coils.length) :
    Entered s ((s.setCoil c k).enterState c new cause) c k new cause := by
  have hk := s.coil_setCoil c k h
  have e : (s.setCoil c k).storeState c new cause =
      s.setCoil c { k with state := new, cause := cause, entryTime := s.plantClock, dwell := 0 } := by
    unfold State.storeState
    rw [hk, State.setCoil_setCoil]
    rfl
  unfold State.enterState
  rw [hk, e]
  have hu := State.handLevelFrom_eq
    (s.setCoil c { k with state := new, cause := cause, entryTime := s.plantClock, dwell := 0 })
    c k.state.level new.level
  generalize State.handLevelFrom _ c k.state.level new.level = u at hu ⊢
  have hw : (u.deriveTripOutput.reportEntry c new).wantsDrive = u.wantsDrive := by
    rw [State.reportEntry_eq]
    exact (State.wantsDrive_congr (s := u.deriveTripOutput) rfl rfl rfl rfl).trans
      u.deriveTripOutput_wantsDrive
  have hc : u.contacts = s.contacts := by rw [hu]; rfl
  have hn : u.notice = s.notice := by rw [hu]; rfl
  have hg : u.globals = s.globals := by rw [hu]; rfl
  refine ⟨?_, ?_, ?_, ?_, ?_, ?_⟩
  · rw [State.reportEntry_eq, State.deriveTripOutput_eq, hu]
    rfl
  · rw [State.reportEntry_eq, State.deriveTripOutput_eq, hu]
    rfl
  · rw [State.reportEntry_eq, State.deriveTripOutput_eq, hu]
    rfl
  · rw [State.reportEntry_eq, State.deriveTripOutput_eq, hu]
    dsimp only
    split <;> rfl
  · rw [hw, State.reportEntry_eq, State.deriveTripOutput_eq]
    dsimp only
    rw [hc, hg]
  · rw [State.reportEntry_eq, State.deriveTripOutput_eq]
    dsimp only
    rw [hc, hg, hn]

/-- Everything a trip does, the coil's record having been made `k` before (R65). -/
theorem State.tripCoil_tripped (c : CoilId) (k : Coil) (cause : Cause) (h : c.val < s.coils.length) :
    Tripped s ((s.setCoil c k).tripCoil c cause) c k cause := by
  have hk := s.coil_setCoil c k h
  have hh : appendTrip k.tripHistory s.plantClock = (k.tripRecorded s.plantClock).tripHistory :=
    appendTrip_eq _ _
  unfold State.tripCoil Tripped Coil.tripState
  dsimp only
  rw [hk, State.setCoil_setCoil]
  have hc : (s.setCoil c k).plantClock = s.plantClock := rfl
  rw [hc, hh, tripsWithin]
  split
  · exact State.enterState_entered s c (k.tripRecorded s.plantClock) .lockout (some cause) h
  · exact State.enterState_entered s c (k.tripRecorded s.plantClock) .trip (some cause) h

/-- Everything the entry into STARTUP does (R68). -/
theorem State.enterStartup_entered (c : CoilId) (k : Coil) (h : c.val < s.coils.length) :
    Entered s ((s.setCoil c k).enterStartup c) c k.started .startup none := by
  unfold State.enterStartup
  rw [s.coil_setCoil c k h, State.setCoil_setCoil]
  exact State.enterState_entered s c k.started .startup none h

/-- Everything a reset to GUARD does (R74, R76). -/
theorem State.resetToGuard_entered (c : CoilId) (k : Coil) (h : c.val < s.coils.length) :
    Entered s ((s.setCoil c k).resetToGuard c) c
      { k with autoResetTimer := 0, eval := { k.eval with dose := 0 } } .guard (some .reset) := by
  unfold State.resetToGuard
  dsimp only
  rw [s.coil_setCoil c k h, State.setCoil_setCoil]
  exact State.enterState_entered s c _ .guard (some .reset) h

/-! ### Requests (R156, R157, R171 to R175) -/

/-- A request that is taken is served with its place reserved; its reply fills that place (R171). -/
theorem State.takeAdmin_served (src code : Byte) (gated : Bool) (serve : State → Served)
    (h : s.trunkOut.canReserve = true) (h1 : s.restartPending = false)
    (h2 : gated = false ∨ s.commit = none) :
    s.takeAdmin src code gated serve =
      match (serve s.reservePlace).result with
      | none => (serve s.reservePlace).state
      | some r => (serve s.reservePlace).state.fillReserved
          { telegram := s.adminReply src code r (serve s.reservePlace).data,
            role := (serve s.reservePlace).role } := by
  unfold State.takeAdmin State.serveAdmin
  rw [if_pos h]
  have : (s.reservePlace.restartPending || (gated && s.reservePlace.commit.isSome)) = false := by
    have e1 : s.reservePlace.restartPending = s.restartPending := rfl
    have e2 : s.reservePlace.commit = s.commit := rfl
    rw [e1, e2, h1]
    rcases h2 with h2 | h2 <;> simp [h2]
  simp only [this]
  rfl

/-- A place reserved and filled again leaves the reserved places as they were (R154). -/
theorem State.reservePlace_fillReserved (t : OutTelegram) :
    s.reservePlace.fillReserved t = { s with trunkOut := { s.trunkOut with
      filled := s.trunkOut.filled ++ [t] } } := by
  simp [State.reservePlace, State.fillReserved, State.withTrunkOut]

/-- A refusal in a free place (R156). -/
theorem State.fillFreeOrDrop_eq (t : Telegram) : s.fillFreeOrDrop t =
    if s.trunkOut.reserved + s.trunkOut.filled.length < 10
    then { s with trunkOut := s.trunkOut.adding t }
    else { s with trunk := { s.trunk with counters :=
      { s.trunk.counters with trunkFull := bump s.trunk.counters.trunkFull } } } := by
  unfold State.fillFreeOrDrop TrunkOut.hasFree TrunkOut.used
  simp only [decide_eq_true_eq]
  split <;> rfl

/-! ### The image (R184, R186) -/

/-- The image that a power-on takes: valid contents whose check word is the one computed over them. -/
theorem Store.passing_eq_some (x : Store) (m : ImageContents) :
    x.passing = some m ↔
      x.condition = .valid ∧ x.contents = some m ∧ x.checkWord = some (imageCheck m) := by
  unfold Store.passing
  cases x.condition <;> simp [Option.filter_eq_some_iff]

/-- What a write that succeeded leaves passes. -/
theorem Store.written_passing (m : ImageContents) : (Store.written m).passing = some m :=
  (Store.passing_eq_some _ m).2 ⟨rfl, rfl, rfl⟩

end Sys2Proof.Machine
end

