-- ==== Sys2Proof/WellFormed.lean ====
section
/-! DEFINITION. Which commands can be sent at all. The types of the operands carry every bound but
one: an ADMIN telegram holds at most 48 payload bytes, the first of them the request code (R127, R130). -/

namespace Sys2Proof

/-- The argument bytes of an ADMIN request fit its telegram: LEN 1 to 48 with the request code (R127). -/
def adminArgsFit (args : List Byte) : Bool := args.length ≤ 47

/-- A command that can be sent. -/
def wellFormed : Instr → Bool
  | .powerOnReset _ => true
  | .loadCoil _ args => adminArgsFit args
  | .loadPoint _ args => adminArgsFit args
  | .clearPoint _ args => adminArgsFit args
  | .loadRule _ args => adminArgsFit args
  | .clearRule _ args => adminArgsFit args
  | .loadRelaySet _ args => adminArgsFit args
  | .enableCoil _ args => adminArgsFit args
  | .disableCoil _ args => adminArgsFit args
  | .resetCoil _ args => adminArgsFit args
  | .setPorts _ args => adminArgsFit args
  | .status _ args => adminArgsFit args
  | .readCounters _ args => adminArgsFit args
  | .commit _ args => adminArgsFit args
  | .restart _ args => adminArgsFit args
  | .coilDetail _ args => adminArgsFit args
  | .readPoints _ args => adminArgsFit args
  | .readActuator _ args => adminArgsFit args
  | .commitWriteEnd _ => true
  | .characterReceived _ _ => true
  | .gapTimerExpiry _ => true
  | .telegramComplete _ _ _ => true
  | .responseTimeout => true
  | .turnaroundEnd => true
  | .lineIdleEvent _ => true
  | .branchGrant => true
  | .trunkTransmissionBegin => true
  | .collision => true
  | .branchLineFault => true
  | .trunkTransmissionComplete => true
  | .branchTransmissionComplete => true
  | .evaluation _ => true
  | .debouncedContactChange _ _ => true
  | .contactSettling => true
  | .debouncedSenseChange _ => true
  | .releaseTimerExpiry => true
  | .pointAgeExpiry _ => true
  | .pollTimerExpiry _ => true
  | .refreshTimerExpiry _ => true
  | .tick _ _ => true
  | .plantClockIncrement => true
  | .sampleAtSpace _ => true
  | .sampleAtMark _ => true
  | .breakEnd => true

end Sys2Proof
end

