-- ==== Sys2Proof/Tests/Slice0.lean ====
section
/-! SUPPORT. Tests: the smoke test of WellFormed, the manual's worked examples, and for every obligation
with hypotheses a witness, that is, concrete states and operands that meet them. -/

set_option maxRecDepth 40000

open Sys2Proof Sys2Proof.Machine

namespace Sys2Proof.Tests

/-- The state a command leads to. -/
def after (c : Instr) (s : State) : State :=
  match exec c s with
  | .next t => t
  | .fault _ => s
  | .refused _ => s

/-- The states that a run of commands leads through, the last one. -/
def afterAll (cs : List Instr) (s : State) : State := cs.foldl (fun s c => after c s) s

/-! ### WellFormed -/

/-- Forty-eight argument bytes do not fit an ADMIN telegram beside its request code (R127). -/
theorem test_wellFormed_refuses_long_arguments :
    ∀ args : List Byte, args.length = 48 → ∀ i ∈ [Instr.loadCoil 1 args, .loadPoint 1 args,
      .clearPoint 1 args, .loadRule 1 args, .clearRule 1 args, .loadRelaySet 1 args, .enableCoil 1 args,
      .disableCoil 1 args, .resetCoil 1 args, .setPorts 1 args, .status 1 args, .readCounters 1 args,
      .commit 1 args, .restart 1 args, .coilDetail 1 args, .readPoints 1 args, .readActuator 1 args],
      wellFormed i = false := by
  intro args h i hi
  simp only [List.mem_cons, List.not_mem_nil, or_false] at hi
  rcases hi with rfl | rfl | rfl | rfl | rfl | rfl | rfl | rfl | rfl | rfl | rfl | rfl | rfl | rfl | rfl |
    rfl | rfl <;> simp [wellFormed, adminArgsFit, h]

/-- Forty-seven fit. -/
theorem test_wellFormed_takes_the_longest :
    wellFormed (.loadRelaySet 240 (List.replicate 47 1#8)) = true := by decide

/-! ### Building states -/

/-- A point's configuration with offset 0, polling off. -/
def pointOf (station channel : Nat) (owner : Owner) (role : Role) (offset : Int) : PointConfig :=
  { station := station, channel := channel, owner := owner, role := role, offset := offset, maxAge := 60,
    pollInterval := 0 }

/-- A VALID point. -/
def validPoint (cfg : PointConfig) (value : Int) (time : Nat) : PointEntry :=
  { cfg := cfg,
    rt := { startRuntime cfg time with
      state := .valid, lastValue := some value, lastStatus := some 0, lastSample := some time } }

/-- The part from reset, some points at the first indices. -/
def withPointEntries (s : State) (points : List PointEntry) : State :=
  { s with points := points.map some ++ List.replicate (96 - points.length) none }

/-- A coil in service with a configuration, in a state. -/
def serving (cfg : CoilConfig) (state : CoilState) (cause : Option Cause) : Coil :=
  { Coil.atPowerOn cfg true with state := state, cause := cause, evalTimer := true }

/-- A state with another coil record. -/
def withCoil (s : State) (c : CoilId) (k : Coil) : State :=
  { s with coils := s.coils.set c.val k, heldLevels := s.heldLevels.set c.val k.state.level }

/-! ### The manual's worked examples -/

/-- Section 3.11: coil 3 with three faces and a water point, seven values in its ring. -/
def doseCase : State :=
  withPointEntries
    (withCoil State.reset 3 { serving defaultCoilConfig .normal none with
      eval := { EvalRuntime.initial with ring := [355, 357, 359, 361, 340, 322, 305] } })
    [validPoint (pointOf 9 0 (.coil 3) (.face 1) 0) 512 0,
     validPoint (pointOf 9 1 (.coil 3) (.face 2) (-20)) 347 0,
     validPoint (pointOf 9 2 (.coil 3) (.face 3) 10) 289 0,
     validPoint (pointOf 9 3 (.coil 3) .water 0) 645 0]

/-- Section 3.11, first evaluation. -/
theorem test_evaluation_dose_case :
    ((after (.evaluation 3) doseCase).coil 3).eval = { EvalRuntime.initial with
      n := 3, tf := some 299, tw := some 645, m := some (-1), slope := some (-8), mp := some (-961),
      dose := 961, waterInPlace := true, ring := [355, 357, 359, 361, 340, 322, 305, 299] } := by decide

/-- Section 3.11, the fourth evaluation trips with cause DOSE at D = 3844. -/
theorem test_evaluation_dose_trip :
    let k := (afterAll [.evaluation 3, .evaluation 3, .evaluation 3, .evaluation 3] doseCase).coil 3
    k.state = .trip ∧ k.cause = some .dose ∧ k.eval.dose = 3844 := by decide

/-- Section 1.10, step 2: the request of (12, 0) for coil 5, poll_interval 90, is stored with 59 and
answered ACCEPTED-CLAMPED. -/
theorem test_loadPoint_lowers_poll_interval :
    let t := after (.loadPoint 240 [12#8, 0#8, 5#8, 1#8, 0#8, 0#8, 0#8, 60#8, 0#8, 90#8]) State.reset
    ((entryAt t.points 0).map (fun e => (e.cfg.pollInterval, e.rt.state))) = some (59, .awaiting) ∧
    (t.trunkOut.filled.map (fun o => o.telegram.payload)) = [[2#8, 1#8]] := by decide

/-- Section 1.10, step 9: a T FORCE of 1200 is stored as 1000 with refresh 60, with one record. -/
theorem test_loadRule_clamps_value :
    let t := after (.loadRule 240 [5#8, 40#8, 3#8, 0#8, 3#8, 2#8, 4#8, 176#8, 0#8]) State.reset
    ((entryAt t.rules 0).map (fun r => (r.value, r.refresh, r.restore))) = some (1000, 60, false) ∧
    ((entryAt t.records 0).map recordKey) = some (40, 3) ∧
    (t.trunkOut.filled.map (fun o => o.telegram.payload)) = [[4#8, 1#8]] := by decide

/-- Section 1.10, step 1: watch_band 250 and guard_band 400 are stored as 250 and 250. -/
theorem test_loadCoil_clamps_guard_band :
    let t := after (.loadCoil 240 [5#8, 3#8, 1#8, 44#8, 1#8, 144#8, 0#8, 250#8, 1#8, 144#8]) State.reset
    (t.coil 5).cfg = { defaultCoilConfig with faceQuorum := 3, watchBand := 250, guardBand := 250 } ∧
    (t.trunkOut.filled.map (fun o => o.telegram.payload)) = [[1#8, 1#8]] := by decide

/-- Section 1.10, step 4: ENABLE-COIL of a coil without points or rules is INCOMPLETE. -/
theorem test_enableCoil_incomplete :
    ((after (.enableCoil 240 [5#8]) State.reset).trunkOut.filled.map (fun o => o.telegram.payload)) =
      [[7#8, 0x14#8]] := by decide

/-- Section 6.7: the block settles at the fourth tick with all inputs CLOSED and the output released, and
input 15 read OPEN drives the output in fallback. -/
theorem test_tick_settles_and_drives :
    let t := afterAll (List.replicate 4 (.tick 0#16 true)) State.reset
    let u := afterAll (List.replicate 4 (.tick 0x8000#16 true)) t
    t.contacts.settled = true ∧ t.contacts.driven = false ∧
    t.contacts.inputs = List.replicate 16 { debounced := .closed, run := 0 } ∧
    u.contacts.driven = true ∧ u.notice.contactChange = .set ∧ u.contacts.recognition = .clear := by decide

/-- Section 6.7: when the thermostat closes again, the output is released and PLANT-TRIP stays CLEAR. -/
theorem test_tick_releases :
    let t := afterAll (List.replicate 4 (.tick 0x8000#16 true)) State.reset
    let u := afterAll (List.replicate 4 (.tick 0#16 false)) t
    t.contacts.driven = true ∧ u.contacts.driven = false ∧ u.contacts.senseHigh = true ∧
    u.contacts.recognition = .clear := by decide

/-- Section 5.8 at 1100: a floor of 600 and a ceiling of 450 give a CONFLICT in which 600 wins. -/
theorem test_constraint_conflict :
    let g : OverrideRule := { coil := 5, station := 40, channel := 3, tag := .heatingValve, level := .g,
                              mode := .floor, value := 600, refresh := 45, restore := true }
    let w : OverrideRule := { coil := 6, station := 40, channel := 3, tag := .other, level := .w,
                              mode := .ceiling, value := 450, refresh := 60, restore := false }
    (constraintOf [g, w]).map (fun k => (k.lo, k.hi, k.conflict, k.refreshPeriod, k.out (some 350))) =
      some (600, 450, true, 45, 600) := by decide

/-- R131: the check of "123456789" begins as the manual's preset and polynomial give it; the check of no
byte is the preset. -/
theorem test_check_preset : crc16 [] = 0xFFFF#16 := by decide

/-- Section 7.7: a REPORT cannot have LEN 9. -/
theorem test_lenAllowed_report : lenAllowed 2 9 = false ∧ lenAllowed 2 8 = true := by decide

/-- Section 7.6: the items of the relayed SET leave as 600 and 0 under floors of 600 and ceilings of 200. -/
theorem test_rewriteItems_shared_valve :
    let record (channel : Nat) (lo hi : Int) : Option ActuatorRecord :=
      some { ActuatorRecord.fresh 40 channel with
        constraint := some (Constraint.mk lo hi false (decide (0 < lo)) 45 false) }
    (rewriteItems 40 [record 3 600 1000, record 9 0 200] [(3, 350), (9, 0)]).2 = [(3, 600), (9, 0)] := by
  decide

/-! ### More single steps with results from the manual -/

/-- Section 8.8: the tenth sample of SRC's bit 0 finds the line at space where 203 sends mark. -/
theorem test_sample_finds_collision :
    let reply : Telegram := { dest := 240, src := 203, kind := 7, payload := [0#8, 0#8] }
    let s := { State.reset with
      trunk := { State.reset.trunk with
        tx := some { bytes := reply.bytes, withBreak := false, elapsed := 377, eighth := .space,
                     ninth := .space, owner := .listHead } },
      trunkOut := { reserved := 0, filled := [{ telegram := reply, role := .plain }] } }
    let t := after (.sampleAtSpace .trunk) s
    t.trunk.counters.collision = 1 ∧ t.trunk.tx = none ∧ t.trunk.waitMark = true ∧
    t.trunkOut = s.trunkOut ∧ t.trunk.errorRun = 0 := by decide

/-- Section 7.7: a REPORT announced with LEN 9 is discarded at position 3 with LENGTH counted. -/
theorem test_character_length_error :
    let s := { State.reset with branch := { State.reset.branch with waitMark := false, errorRun := 1 } }
    let char (d : Byte) (m : Bool) : Instr :=
      .characterReceived .branch { data := d, markBit := m, stopMark := true, noise := false }
    let t := afterAll [char 240 true, char 12 false, char 2 false, char 9 false] s
    t.branch.receiver = .hunt ∧ t.branch.counters.length = 1 ∧ t.branch.errorRun = 2 := by decide

/-- Section 7.7: a character with its stop bit at space and some bits at mark counts FRAMING; the receiver
waits for mark in HUNT. -/
theorem test_character_framing_error :
    let s := { State.reset with
      branch := { State.reset.branch with waitMark := false, receiver := .assemble [240], errorRun := 3 } }
    let t := after (.characterReceived .branch
      { data := 5, markBit := false, stopMark := false, noise := false }) s
    t.branch.receiver = .hunt ∧ t.branch.waitMark = true ∧ t.branch.counters.framing = 1 ∧
    t.branch.errorRun = 4 := by decide

/-- Section 10.7: the NOTICE reports coil 4 in WATCH with MARGIN and coil 9 in TRIP with DOSE, LEN 9. -/
theorem test_notice_built :
    let s := withCoil (withCoil { State.reset with fallback := false, plantClock := 805 } 4
      (serving defaultCoilConfig .watch (some .margin))) 9 (serving defaultCoilConfig .trip (some .dose))
    let n := { s with notice := { Notice.atPowerOn with
      coils := ((List.replicate 16 Mark.clear).set 4 .set).set 9 .set, contactChange := .set,
      urgent := .set, moderationTicks := 40 } }
    n.buildNotice.payload = [0, 0, 3, 37, 16, 67, 1, 149, 3] := by decide

/-- Section 9.10, grant 1: of needs with equal raising times the lowest index is granted. -/
theorem test_grant_lowest_index :
    let bound (v : Int) : Option Constraint := some (Constraint.mk v 1000 false true 60 false)
    let record (station channel : Nat) : Option ActuatorRecord :=
      some { ActuatorRecord.fresh station channel with constraint := bound 1000, need := .protect 7000 }
    let s := { State.reset with
      plantClock := 7000,
      branch := { State.reset.branch with lineIdle := true },
      records := [none, none, record 40 3, record 40 9, record 41 0, record 41 1] ++ List.replicate 42 none }
    let t := after .branchGrant s
    t.txn = .outstanding .sending
      { request := { dest := 40, src := 200, kind := 3, payload := [3#8, 3#8, 0xE8#8] },
        origin := .ownSet 40 3 true, timeout := 50 } ∧
    t.fairness = 1 ∧ t.branch.tx.isSome = true := by decide

/-- Section 2.8 at 5003: 7200 makes an entry FAULT that keeps 388, and its poll is due at 5033. -/
theorem test_report_item_fault :
    let e := validPoint { pointOf 12 1 (.coil 5) (.face 3) 0 with pollInterval := 30 } 388 5000
    (e.takeItem 5003 0 7200).rt =
      { state := .fault, lastValue := some 388, lastStatus := some 0, lastSample := some 5003,
        lastPoll := none, ageBase := 5003, pollNeed := false, pollDue := some 5033 } := by decide

/-- Section 2.8 at 5064: an entry whose age base is 5003 and whose max_age is 60 goes STALE. -/
theorem test_age_expiry :
    let s := { withPointEntries State.reset [validPoint (pointOf 12 0 (.coil 5) (.face 1) 0) 405 5003] with
      plantClock := 5064 }
    (after (.pointAgeExpiry 0) s).points.head? =
      some (some { validPoint (pointOf 12 0 (.coil 5) (.face 1) 0) 405 5003 with
        rt := { (validPoint (pointOf 12 0 (.coil 5) (.face 1) 0) 405 5003).rt with state := .stale } }) := by
  decide

/-- Section 6.8, steps 4 and 5: a coil reset out of its latch releases the line, and a recognition frozen
in ASSERTED goes to RELEASING with 80 ticks. -/
theorem test_reset_releases_the_line :
    let k := { serving defaultCoilConfig .trip (some .hard) with
      eval := { EvalRuntime.initial with m := some 150, mp := some 150 } }
    let s := withCoil { State.reset with
      fallback := false,
      contacts := { ContactBlock.atPowerOn with
        settled := true, driven := true, recognition := .asserted, senseHigh := false } } 8 k
    let t := after (.resetCoil 240 [8#8, 0#8]) s
    (t.coil 8).state = .guard ∧ (t.coil 8).cause = some .reset ∧ t.contacts.driven = false ∧
    t.contacts.recognition = .releasing ∧ t.contacts.releaseTimer = some 80 ∧
    t.contacts.senseHigh = true ∧ t.notice.plantTripEvent = .set := by decide

/-- Section 4.10 at 12 100: the third trip within 3600 seconds leads to LOCKOUT. -/
theorem test_third_trip_locks_out :
    let s := { withPointEntries (withCoil State.reset 3 { serving defaultCoilConfig .watch (some .margin) with
        tripHistory := [9000, 10033] })
      [validPoint (pointOf 9 0 (.coil 3) (.face 1) 0) 450 0,
       validPoint (pointOf 9 1 (.coil 3) (.face 2) 0) 450 0,
       validPoint (pointOf 9 3 (.coil 3) .water 0) 150 0] with plantClock := 12100 }
    let k := (after (.evaluation 3) s).coil 3
    k.eval.m = some (-250) ∧ k.state = .lockout ∧ k.cause = some .hard ∧
    k.tripHistory = [9000, 10033, 12100] := by decide

/-- Section 11.6: at the success of the COMMIT FALLBACK clears, and input 15, still OPEN, drives no more. -/
theorem test_commit_leaves_fallback :
    let s := { State.reset with
      commit := some { requester := 240, contents := State.reset.imageContents },
      trunkOut := { reserved := 1, filled := [] },
      contacts := { ContactBlock.atPowerOn with settled := true, driven := true } }
    let t := after (.commitWriteEnd true) s
    t.fallback = false ∧ t.contacts.driven = false ∧ t.store.condition = .valid ∧
    t.trunkOut.filled.map (fun o => o.telegram.payload) = [[0x0D#8, 0#8]] := by decide

/-- R188, R190: without an image the part powers on in fallback at the address that the straps give. -/
theorem test_power_on_in_fallback :
    let t := after (.powerOnReset 3#5) State.reset
    t.fallback = true ∧ t.ownAddress = 203 ∧ t.notice.fallbackChange = .set := by decide

/-! ### Witnesses: for each obligation with hypotheses, states and operands that meet them -/

/-- A telegram used below: a READ of channel 0 of station 12 by the plant controller. -/
def readOf12 : Telegram := { dest := 12, src := 240, kind := 1, payload := [0] }

/-- A SET of channel 0 of station 12. -/
def setOf12 : Telegram := { dest := 12, src := 240, kind := 3, payload := [0, 1, 0] }

/-- A transaction with an origin. -/
def txnOf (request : Telegram) (origin : TxnOrigin) : Transaction :=
  { request := request, origin := origin, timeout := 50 }

/-- A transmission at a sample. -/
def txAt (elapsed : Nat) (owner : TxOwner) : Transmission :=
  { bytes := readOf12.bytes, withBreak := false, elapsed := elapsed, eighth := .space, ninth := .space,
    owner := owner }

/-- Reset with some points, as seconds 1000. -/
def clocked (s : State) (clock : Nat) : State := { s with plantClock := clock }

theorem witness_StepTakesTheFrontCommand :
    ({ State.reset with pending := [.plantClockIncrement, .branchGrant] } : State).pending =
      .plantClockIncrement :: [.branchGrant] ∧ State.reset.pending = [] := by decide

theorem witness_PlantClockCountsSeconds :
    (clocked State.reset 4294967294).plantClock < 4294967295 ∧
    4294967295 ≤ (clocked State.reset 4294967295).plantClock := by decide

/-- A VALID point with max_age 60 and a poll timer, in a part at second `clock`. -/
def agedPoint (due : Option Nat) : PointEntry :=
  { validPoint { pointOf 12 0 (.coil 5) (.face 1) 0 with pollInterval := 30 } 405 5003 with
    rt := { (validPoint { pointOf 12 0 (.coil 5) (.face 1) 0 with pollInterval := 30 } 405 5003).rt with
      pollDue := due } }

theorem witness_PointTimersExpire :
    (withPointEntries State.reset [agedPoint (some 5033)]).points[(0 : Fin 96).val]? =
      some (some (agedPoint (some 5033))) ∧
    (agedPoint none).rt.ageBase + (agedPoint none).cfg.maxAge + 1 ≤ (clocked State.reset 5064).plantClock ∧
    (clocked State.reset 5063).plantClock < (agedPoint none).rt.ageBase + (agedPoint none).cfg.maxAge + 1 ∧
    (agedPoint (some 5033)).rt.pollDue = some 5033 ∧ 5033 ≤ (clocked State.reset 5033).plantClock ∧
    (agedPoint none).rt.pollDue = none := by decide

theorem witness_ReportItemMakesValidOrFault :
    ((0 : Byte) = 0 ∧ (-5000 : Int) ≤ -5000 ∧ (-5000 : Int) ≤ 6000) ∧
    ((0 : Byte) = 0 ∧ (-5000 : Int) ≤ 6000 ∧ (6000 : Int) ≤ 6000) ∧
    ((1 : Byte) ≠ 0 ∨ (0 : Int) < -5000 ∨ (6000 : Int) < 0) ∧ (-5001 : Int) < -5000 ∧ (6000 : Int) < 6001 := by
  decide

/-- A record of (40, 3) under a floor of 600. -/
def floored (need : Need) (timer : Option Nat) : ActuatorRecord :=
  { ActuatorRecord.fresh 40 3 with
    constraint := some (Constraint.mk 600 1000 false true 45 true), cmdLast := some 350, need := need,
    refreshTimer := timer }

/-- Reset with one actuator record at index 0. -/
def withRecord (s : State) (r : ActuatorRecord) : State :=
  { s with records := some r :: List.replicate 47 none }

theorem witness_RefreshExpiryRaisesRefresh :
    (withRecord State.reset (floored .none (some 45))).records[(0 : Fin 48).val]? =
      some (some (floored .none (some 45))) ∧
    (floored .none (some 45)).refreshTimer = some 45 ∧ (floored .none (some 45)).need = .none ∧
    (floored (.protect 7) (some 45)).need ≠ .none ∧ (floored .none none).refreshTimer = none := by decide

/-- A transaction in AWAITING. -/
def awaiting (origin : TxnOrigin) : State :=
  { withRecord State.reset (floored (.protect 7) (some 45)) with
    txn := .outstanding .awaiting (txnOf readOf12 origin) }

theorem witness_ResponseTimeoutEndsTheTransaction :
    (awaiting (.relayed false)).txn = .outstanding .awaiting (txnOf readOf12 (.relayed false)) ∧
    (awaiting .ownRead).txn = .outstanding .awaiting (txnOf readOf12 .ownRead) ∧
    (awaiting (.ownSet 40 3 false)).txn = .outstanding .awaiting (txnOf readOf12 (.ownSet 40 3 false)) ∧
    (awaiting (.ownSet 40 3 true)).txn = .outstanding .awaiting (txnOf readOf12 (.ownSet 40 3 true)) ∧
    recordFor (awaiting (.ownSet 40 3 true)).records 40 3 = some (floored (.protect 7) (some 45)) := by decide

/-- A branch transmission under way in a phase. -/
def transmitting (phase : TxnPhase) (origin : TxnOrigin) : State :=
  { State.reset with
    branch := { State.reset.branch with tx := some (txAt 700 .branchRequest) },
    txn := .outstanding phase (txnOf readOf12 origin) }

/-- A turnaround after some samples. -/
def turning (n : Nat) : State := { State.reset with txn := .turnaround n }

theorem witness_TransactionStatesAdvance :
    (transmitting .brk .ownRead).branch.tx = some (txAt 700 .branchRequest) ∧
    (transmitting .brk .ownRead).txn = .outstanding .brk (txnOf readOf12 .ownRead) ∧
    (transmitting .sending .ownRead).txn = .outstanding .sending (txnOf readOf12 .ownRead) ∧
    (turning 174).txn = .turnaround 174 ∧ (turning 175).txn = .turnaround 175 ∧
    (turning 175).branch.tx = none ∧ (turning 175).branch.sampler = none ∧
    (turning 175).branch.gapTimer = none ∧ (turning 175).staged.replyLeft = false := by decide

theorem witness_BranchLineFaultEndsTransaction :
    (∀ origin ∈ [TxnOrigin.relayed true, .ownSet 40 3 true, .ownSet 40 3 false, .ownRead],
      ∀ phase ∈ [TxnPhase.brk, .sending],
        (transmitting phase origin).branch.tx = some (txAt 700 .branchRequest) ∧
        (transmitting phase origin).txn = .outstanding phase (txnOf readOf12 origin)) ∧
    (txAt 9 .branchRequest).elapsed % 16 = 9 ∧
    twoOfThree (txAt 9 .branchRequest).eighth (txAt 9 .branchRequest).ninth .mark ≠
      (txAt 9 .branchRequest).levelSent ((txAt 9 .branchRequest).elapsed / 16) := by decide

/-- Settings staged for both ports, their reply left, with a transaction state. -/
def resettling (txn : TxnState) : State :=
  { State.reset with
    staged := { trunk := some { divisor := 47, polarity := .inverted },
                branch := some ({ divisor := 11, polarity := .normal }, 80), globals := none,
                replyLeft := true },
    txn := txn }

theorem witness_LineIdleEventHoldsAndApplies :
    (∀ p, (State.reset.port p).tx = none ∧ (State.reset.port p).lineIdle = false) ∧
    State.reset.staged.replyLeft = false ∧
    (∀ txn ∈ [TxnState.idle, .outstanding .receiving (txnOf readOf12 (.relayed false)),
        .outstanding .receiving (txnOf setOf12 (.ownSet 40 3 true)),
        .outstanding .receiving (txnOf readOf12 .ownRead)],
      (∀ p ∈ [PortId.trunk, .branch],
        ((resettling txn).port p).tx = none ∧ ((resettling txn).port p).lineIdle = false) ∧
      (resettling txn).staged.replyLeft = true ∧
      (resettling txn).staged.trunk = some { divisor := 47, polarity := .inverted } ∧
      (resettling txn).staged.branch = some ({ divisor := 11, polarity := .normal }, 80)) ∧
    ({ resettling .idle with staged := { (resettling .idle).staged with trunk := none } } : State).staged.trunk =
      none := by
  refine ⟨?_, by decide, by decide, rfl⟩
  intro p; cases p <;> decide

/-- A trunk port that hears, with an idle count. -/
def hearing (idle : Nat) : State :=
  { State.reset with trunk := { State.reset.trunk with waitMark := false, idleCount := idle } }

theorem witness_SamplesOnAQuietLine :
    (hearing 174).trunk.tx = none ∧ (hearing 174).trunk.sampler = none ∧
    (hearing 174).trunk.waitMark = false ∧ State.reset.trunk.waitMark = true ∧
    (hearing 174).trunk.gapTimer = none ∧ (hearing 174).trunk.idleCount < 175 ∧
    (hearing 175).trunk.idleCount = 175 ∧ (hearing 175).trunk.lineIdle = false ∧
    (PortId.branch = .branch → ∀ n, State.reset.txn ≠ .turnaround n) ∧
    ({ (hearing 176).trunk with lineIdle := true } : Port).lineIdle = true ∧
    175 ≤ ({ (hearing 176).trunk with lineIdle := true } : Port).idleCount ∧
    (∀ n ∈ [0, 1, 2], ({ (hearing 3).trunk with gapTimer := some n } : Port).gapTimer = some n) := by
  refine ⟨?_, ?_, ?_, ?_, ?_, ?_, ?_, ?_, fun _ n h => (nomatch h), ?_, ?_, ?_⟩ <;> decide

/-- An idle trunk line, with filled telegrams and a notice pending state. -/
def trunkReady (filled : List OutTelegram) (notice : Notice) : State :=
  { State.reset with
    trunk := { State.reset.trunk with lineIdle := true }, trunkOut := { reserved := 0, filled := filled },
    notice := notice }

theorem witness_TrunkTransmissionBegins :
    let out : OutTelegram := { telegram := readOf12, role := .plain }
    let due : Notice := { State.reset.notice with moderationTicks := 40 }
    let urgent : Notice := { State.reset.notice with moderationTicks := 0, urgent := .set }
    (trunkReady [out] due).trunk.lineIdle = true ∧ (trunkReady [out] due).trunk.tx = none ∧
    (trunkReady [out] due).trunkOut.filled = out :: [] ∧ (trunkReady [] due).trunkOut.filled = [] ∧
    due.coils.length = 16 ∧ somethingPending due ∧ somethingPending urgent ∧
    State.reset.globals.noticesOn = true ∧ 8 * State.reset.globals.moderation ≤ due.moderationTicks ∧
    urgent.urgent ≠ .clear := by
  refine ⟨?_, ?_, ?_, ?_, ?_, ?_, ?_, ?_, ?_, ?_⟩
  case refine_6 => exact .inr (.inr (.inr (.inr (.inr (by decide)))))
  case refine_7 => exact .inr (.inr (.inr (.inr (.inr (by decide)))))
  all_goals decide

/-- A trunk transmission under way. -/
def trunkSending (owner : TxOwner) (filled : List OutTelegram) : State :=
  { State.reset with
    trunk := { State.reset.trunk with tx := some (txAt 377 owner) },
    trunkOut := { reserved := 0, filled := filled } }

theorem witness_TrunkTelegramOrNoticeLeaves :
    let plain : OutTelegram := { telegram := readOf12, role := .plain }
    let ports : OutTelegram := { telegram := readOf12, role := .setPorts }
    (trunkSending .listHead [plain, ports]).trunk.tx = some (txAt 377 .listHead) ∧
    (txAt 377 .listHead).owner = .listHead ∧ plain.role = .plain ∧ ports.role = .setPorts ∧
    (trunkSending .listHead [plain, ports]).trunkOut.filled = plain :: [ports] ∧
    (trunkSending .listHead [ports]).trunkOut.filled = ports :: [] ∧
    (trunkSending .notice []).trunk.tx = some (txAt 377 .notice) ∧ (txAt 377 .notice).owner = .notice := by
  decide

theorem witness_CollisionKeepsTelegramAndNotice :
    (trunkSending .listHead []).trunk.tx = some (txAt 377 .listHead) ∧
    (txAt 377 .listHead).owner = .listHead ∧ (txAt 377 .notice).owner = .notice ∧
    (txAt 9 .listHead).elapsed % 16 = 9 ∧
    twoOfThree (txAt 9 .listHead).eighth (txAt 9 .listHead).ninth .space ≠
      (txAt 9 .listHead).levelSent ((txAt 9 .listHead).elapsed / 16) ∧
    -- a sample that is read back as sent, in the middle of a bit time of the start bit
    twoOfThree (txAt 185 .listHead).eighth (txAt 185 .listHead).ninth .mark =
      (txAt 185 .listHead).levelSent ((txAt 185 .listHead).elapsed / 16) ∧
    (txAt 185 .listHead).elapsed % 16 = 9 ∧
    (txAt 185 .listHead).elapsed + 1 ≠ 16 * (11 + 11 * (txAt 185 .listHead).bytes.length) ∧
    -- the last sample of a telegram on either port
    (txAt 1407 .listHead).elapsed + 1 = 16 * (11 + 11 * (txAt 1407 .listHead).bytes.length) ∧
    (txAt 1407 .listHead).elapsed % 16 ≠ 9 ∧
    (transmitting .sending .ownRead).txn = .outstanding .sending (txnOf readOf12 .ownRead) ∧
    -- the last sample of the mark after a resync break
    (txAt 703 .branchRequest).elapsed + 1 = 704 ∧ (txAt 703 .branchRequest).elapsed % 16 ≠ 9 ∧
    704 ≠ 16 * (44 + 11 * (txAt 703 .branchRequest).bytes.length) ∧
    (transmitting .brk .ownRead).txn = .outstanding .brk (txnOf readOf12 .ownRead) := by decide

theorem witness_TelegramsSentAreReadBack :
    let broken : Transmission := { txAt 700 .branchRequest with withBreak := true }
    ({ readOf12 with payload := List.replicate 48 0 } : Telegram).payload.length ≤ 48 ∧
    broken.withBreak = true ∧ broken.bytes[0]? = some 12 ∧
    broken.bytes[readOf12.bytes.length - 1]? = some (readOf12.bytes.getLastD 0) ∧
    (trunkSending .listHead []).trunk.tx = some (txAt 377 .listHead) ∧
    (transmitting .sending .ownRead).branch.tx = some (txAt 700 .branchRequest) ∧
    State.reset.trunk.tx = none ∧ State.reset.branch.tx = none := by decide

theorem witness_HuntTakesCharacters :
    (∀ p, ({ hearing 0 with branch := (hearing 0).trunk }.port p).tx = none ∧
      ({ hearing 0 with branch := (hearing 0).trunk }.port p).waitMark = false ∧
      ({ hearing 0 with branch := (hearing 0).trunk }.port p).receiver = .hunt) ∧
    (∀ q, (hearing 0).txn ≠ .outstanding .awaiting q) ∧
    (awaiting .ownRead).txn = .outstanding .awaiting (txnOf readOf12 .ownRead) := by
  refine ⟨?_, fun q h => (nomatch h), rfl⟩
  intro p; cases p <;> decide

/-- A trunk receiver in ASSEMBLE with some bytes. -/
def trunkAssembling (bytes : List Byte) : State :=
  { State.reset with
    trunk := { State.reset.trunk with waitMark := false, receiver := .assemble bytes, gapTimer := some 5 } }

/-- R134, R140: a mark sample on a quiet line takes one from the gap timer and counts; the one that leaves
none is the GAP error. -/
theorem test_mark_counts_gap :
    let s (n : Nat) : State := { State.reset with trunk := { (trunkAssembling [12]).trunk with gapTimer := some n } }
    ((after (.sampleAtMark .trunk) (s 2)).trunk.gapTimer, (after (.sampleAtMark .trunk) (s 2)).trunk.idleCount) =
      (some 1, 1) ∧
    ((after (.sampleAtMark .trunk) (s 1)).trunk.gapTimer, (after (.sampleAtMark .trunk) (s 1)).trunk.counters.gap) =
      (none, 1) := by decide

/-- A branch receiver in ASSEMBLE with some bytes, and a transaction in RECEIVING. -/
def branchAssembling (bytes : List Byte) (q : Transaction) : State :=
  { State.reset with
    branch := { State.reset.branch with waitMark := false, receiver := .assemble bytes, gapTimer := some 5 },
    txn := .outstanding .receiving q }

theorem witness_AssembleTakesCharacters :
    (∀ p ∈ [PortId.trunk, .branch], ∀ bytes ∈ [[12], [12, 240, (1 : Byte)]],
      let s : State := { branchAssembling bytes (txnOf readOf12 .ownRead) with
        trunk := (trunkAssembling bytes).trunk }
      (s.port p).tx = none ∧ (s.port p).waitMark = false ∧ (s.port p).receiver = .assemble bytes) ∧
    (∀ stop mark : Bool, ∃ ch : LineChar, ch.stopMark = stop ∧ ch.markBit = mark) ∧
    ([12, 240] : List Byte).length ≠ 4 ∧ ([12, 240] : List Byte).length ≠ 6 + (([12, 240] : List Byte).getD 3 0).toNat ∧
    ([12, 240, 1] : List Byte).length = 3 ∧
    lenInTable ((([12, 240, 1] : List Byte).getD 2 0).toNat % 16) (8 : Byte).toNat ∧
    ¬ lenInTable ((([12, 240, 1] : List Byte).getD 2 0).toNat % 16) (9 : Byte).toNat := by
  refine ⟨by decide, fun stop mark => ⟨⟨0, mark, stop, false⟩, rfl, rfl⟩, by decide, by decide, by decide,
    ⟨by decide, by decide⟩, fun h => absurd h.2 (by decide)⟩

theorem witness_GapExpiryDiscards :
    ((trunkAssembling [12]).port .trunk).gapTimer = some 5 ∧
    (∀ origin ∈ [TxnOrigin.relayed false, .ownSet 40 3 true, .ownRead],
      ((branchAssembling [12] (txnOf readOf12 origin)).port .branch).gapTimer = some 5) := by decide

/-- The bytes of a telegram but for the last, and the last. -/
def allButLast (t : Telegram) : List Byte := t.bytes.dropLast

/-- The last byte of a telegram. -/
def lastOf (t : Telegram) : Byte := t.bytes.getLastD 0

/-- A trunk receiver one character before the end of a telegram. -/
def trunkNearEnd (t : Telegram) : State := trunkAssembling (allButLast t)

/-- A branch receiver one character before the end of a telegram, with a transaction. -/
def branchNearEnd (t : Telegram) (q : Transaction) : State := branchAssembling (allButLast t) q

theorem witness_CompletionTestsCheckThenAddress :
    let unassigned : Telegram := { readOf12 with dest := 232 }
    let q : Transaction := txnOf readOf12 (.relayed false)
    (∀ s ∈ [trunkNearEnd readOf12, { trunkNearEnd readOf12 with branch := (trunkNearEnd readOf12).trunk }],
      completes s.trunk (allButLast readOf12) (lastOf readOf12 + 1)) ∧
    completes (branchNearEnd readOf12 q).branch (allButLast readOf12) (lastOf readOf12 + 1) ∧
    checkPasses (allButLast readOf12 ++ [lastOf readOf12 + 1]) = false ∧
    completes (trunkNearEnd unassigned).trunk (allButLast unassigned) (lastOf unassigned) ∧
    completes (branchNearEnd unassigned q).branch (allButLast unassigned) (lastOf unassigned) ∧
    checkPasses (allButLast unassigned ++ [lastOf unassigned]) = true ∧
    ¬ assigned ((allButLast unassigned ++ [lastOf unassigned]).getD 0 0) := by
  refine ⟨?_, ⟨?_, ?_, ?_, ?_, ?_⟩, ?_, ⟨?_, ?_, ?_, ?_, ?_⟩, ⟨?_, ?_, ?_, ?_, ?_⟩, ?_, ?unassigned⟩
  · intro s hs
    simp only [List.mem_cons, List.not_mem_nil, or_false] at hs
    rcases hs with rfl | rfl <;> exact ⟨by decide, by decide, by decide, by decide, by decide⟩
  case unassigned => rintro (h | h | h) <;> revert h <;> decide
  all_goals decide

/-- What a good branch telegram of some kind and payload brings with it, its addresses those of an answer
to a request of station 12. -/
theorem answer_completes (q : Transaction) (t : Telegram)
    (h : t ∈ [⟨240, 12, 5, [1]⟩, ⟨240, 12, 2, [0, 0, 1, 155]⟩, ⟨240, 12, 4, [0, 2, 88]⟩,
      (⟨240, 13, 5, [1]⟩ : Telegram)]) :
    completes (branchNearEnd t q).branch (allButLast t) (lastOf t) ∧
    checkPasses (allButLast t ++ [lastOf t]) = true ∧ t = assembledTelegram (allButLast t ++ [lastOf t]) ∧
    assigned t.dest ∧ (branchNearEnd t q).txn = .outstanding .receiving q := by
  simp only [List.mem_cons, List.not_mem_nil, or_false] at h
  rcases h with rfl | rfl | rfl | rfl <;>
    refine ⟨⟨rfl, rfl, rfl, ?_, ?_⟩, ?_, ?_, .inr (.inr ?_), rfl⟩ <;> decide

/-- A REFUSE that answers, one of another station, and none waiting (answer_completes has the rest). -/
theorem witness_CompletionTestsCheckThenAddress_refuse :
    let t : Telegram := { dest := 240, src := 12, kind := 5, payload := [1] }
    t.code ≠ 2 ∧ t.code ≠ 4 ∧ t.code = 5 ∧
    (∀ q ∈ [txnOf readOf12 (.relayed false), txnOf setOf12 (.ownSet 40 3 true), txnOf readOf12 .ownRead],
      t.src = q.request.dest ∧ t.dest = q.request.src ∧ (q.request.code = 1 ∨ q.request.code = 3)) ∧
    (∀ w, (txnOf setOf12 (.ownSet 40 3 true)).origin ≠ .relayed w) ∧
    ¬ answers (txnOf readOf12 .ownRead) { t with src := 13 } ∧
    (∀ q, State.reset.txn ≠ .outstanding .receiving q) :=
  ⟨by decide, by decide, by decide, by decide, fun w h => (nomatch h), fun h => absurd h.1 (by decide),
    fun q h => (nomatch h)⟩

theorem witness_TrunkRequestsAreRelayedOrRefused :
    completes (trunkNearEnd readOf12).trunk (allButLast readOf12) (lastOf readOf12) ∧
    checkPasses (allButLast readOf12 ++ [lastOf readOf12]) = true ∧
    assembledTelegram (allButLast readOf12 ++ [lastOf readOf12]) = readOf12 ∧
    assigned readOf12.dest ∧ readOf12.code = 1 ∧
    readOf12.dest.toNat ∈ ({ trunkNearEnd readOf12 with relaySet := [12] } : State).relaySet ∧
    (trunkNearEnd readOf12).relayQueue.length < 7 ∧ (trunkNearEnd readOf12).trunkOut.reserved < 7 ∧
    (trunkNearEnd readOf12).trunkOut.reserved + (trunkNearEnd readOf12).trunkOut.filled.length < 10 ∧
    7 ≤ ({ trunkNearEnd readOf12 with relayQueue := List.replicate 7 readOf12 } : State).relayQueue.length ∧
    10 ≤ (7 : Nat) + (List.replicate 3 (OutTelegram.mk readOf12 .plain)).length ∧
    readOf12.dest.toNat ∉ (trunkNearEnd readOf12).relaySet ∧ readOf12.code ≠ 6 := by
  refine ⟨⟨?_, ?_, ?_, ?_, ?_⟩, ?_, ?_, .inl ?_, ?_, ?_, ?_, ?_, ?_, ?_, ?_, ?_, ?_⟩ <;> decide

theorem witness_AdminTelegramIsTheRequest :
    (∀ code ∈ [7#8, 0#8, 18#8],
      let t : Telegram := { dest := 200, src := 240, kind := 6, payload := [code, 5] }
      completes (trunkNearEnd t).trunk (allButLast t) (lastOf t) ∧
      checkPasses (allButLast t ++ [lastOf t]) = true ∧ t = assembledTelegram (allButLast t ++ [lastOf t]) ∧
      t.code = 6 ∧ t.dest = (trunkNearEnd t).ownAddress ∧ t.payload = code :: [5#8] ∧
      (trunkNearEnd t).trunkOut.canReserve = true) ∧
    adminRequest (.enableCoil 240 [5]) = some (240, 7#8) ∧ adminArgs (.enableCoil 240 [5]) = some [5#8] ∧
    1 ≤ (1#8).toNat ∧ (17#8).toNat ≤ 17 ∧ (0#8).toNat = 0 ∧ 17 < (18#8).toNat ∧
    7 ≤ (7 : Nat) ∧ (7 : Nat) + ([] : List OutTelegram).length < 10 ∧
    10 ≤ (7 : Nat) + (List.replicate 3 (OutTelegram.mk readOf12 .plain)).length := by
  refine ⟨?_, by decide, by decide, by decide, by decide, by decide, by decide, by decide, by decide,
    by decide⟩
  intro code h
  simp only [List.mem_cons, List.not_mem_nil, or_false] at h
  rcases h with rfl | rfl | rfl <;>
    refine ⟨⟨rfl, rfl, rfl, ?_, ?_⟩, ?_, ?_, ?_, ?_, rfl, ?_⟩ <;> decide

theorem witness_ReportIsTakenAndForwarded :
    let t : Telegram := { dest := 240, src := 12, kind := 2, payload := [0, 0, 1, 155] }
    (∀ q, completes (branchNearEnd t q).branch (allButLast t) (lastOf t) ∧
      (branchNearEnd t q).txn = .outstanding .receiving q) ∧
    checkPasses (allButLast t ++ [lastOf t]) = true ∧ t = assembledTelegram (allButLast t ++ [lastOf t]) ∧
    assigned t.dest ∧ t.code = 2 ∧
    (∀ q ∈ [txnOf readOf12 (.relayed false), txnOf readOf12 .ownRead],
      q.request.code = 1 ∧ t.src = q.request.dest ∧ t.dest = q.request.src) ∧
    (txnOf setOf12 .ownRead).request.code ≠ 1 ∧ ¬ answers (txnOf readOf12 .ownRead) { t with src := 13 } ∧
    (∀ q, State.reset.txn ≠ .outstanding .receiving q) := by
  intro t
  have h (q : Transaction) := answer_completes q t (by decide)
  exact ⟨fun q => ⟨(h q).1, (h q).2.2.2.2⟩, (h (txnOf readOf12 .ownRead)).2.1,
    (h (txnOf readOf12 .ownRead)).2.2.1, .inr (.inr (by decide)), by decide, by decide, by decide,
    fun h => absurd h.1 (by decide), fun q h => (nomatch h)⟩

theorem witness_AppliedIsTakenAndForwarded :
    let t : Telegram := { dest := 240, src := 12, kind := 4, payload := [0, 2, 88] }
    (∀ q, completes (branchNearEnd t q).branch (allButLast t) (lastOf t) ∧
      (branchNearEnd t q).txn = .outstanding .receiving q) ∧
    checkPasses (allButLast t ++ [lastOf t]) = true ∧ t = assembledTelegram (allButLast t ++ [lastOf t]) ∧
    assigned t.dest ∧ t.code = 4 ∧
    (∀ q ∈ [txnOf setOf12 (.relayed true), txnOf setOf12 (.ownSet 12 0 true)],
      q.request.code = 3 ∧ t.src = q.request.dest ∧ t.dest = q.request.src) ∧
    (txnOf readOf12 .ownRead).request.code ≠ 3 ∧ ¬ answers (txnOf setOf12 .ownRead) { t with src := 13 } ∧
    (∀ q, State.reset.txn ≠ .outstanding .receiving q) := by
  intro t
  have h (q : Transaction) := answer_completes q t (by decide)
  exact ⟨fun q => ⟨(h q).1, (h q).2.2.2.2⟩, (h (txnOf readOf12 .ownRead)).2.1,
    (h (txnOf readOf12 .ownRead)).2.2.1, .inr (.inr (by decide)), by decide, by decide, by decide,
    fun h => absurd h.1 (by decide), fun q h => (nomatch h)⟩

/-! ### Witnesses: coil protection -/

/-- Coil 3 in a state, with two VALID faces at a value and no water point. -/
def faced (k : Coil) (value : Int) : State :=
  withPointEntries (withCoil State.reset 3 k)
    [validPoint (pointOf 9 0 (.coil 3) (.face 1) 0) value 0,
     validPoint (pointOf 9 1 (.coil 3) (.face 2) 0) value 0]

theorem witness_EvaluationStoresItsResults :
    doseCase.coils.length = 16 ∧ (doseCase.coil 3).evalTimer = true := by decide

/-- The evaluated record of a coil; the statements speak of it as `EvaluatedRecord`. -/
def evaluatedRecord (s : State) (c : CoilId) : Coil :=
  advanceTimers (s.coldWeatherFor (s.coil c).cfg) { s.coil c with eval := s.evaluatedCoil c }

/-- For every state and coil some record meets the statements' hypothesis: this one. -/
theorem witness_EvaluatedRecord (s : State) (c : CoilId) : EvaluatedRecord s c (evaluatedRecord s c) :=
  (evaluatedRecord_iff s c _).mpr rfl

theorem not_hardTrip {k : Coil} {m : Int} (h : k.eval.m = some m) (hm : -k.cfg.hardBand < m) :
    ¬ hardTrip k := by
  rintro ⟨x, hx, hle⟩
  rw [h] at hx
  cases hx
  omega

theorem not_predictedBelow {k : Coil} {band mp : Int} (h : k.eval.mp = some mp) (hm : band ≤ mp) :
    ¬ predictedBelow k band := by
  rintro ⟨x, hx, hlt⟩
  rw [h] at hx
  cases hx
  omega

/-- Section 3.11 with D at 2883 before. -/
def doseNearTrip : State :=
  withCoil doseCase 3 { doseCase.coil 3 with eval := { (doseCase.coil 3).eval with dose := 2883 } }

/-- A coil in NORMAL with a contact that input 4, OPEN, makes cold. -/
def contactCase : State :=
  let s := faced (serving { defaultCoilConfig with contact := some { input := 4, polarity := .openCold } }
    .normal none) 640
  { s with contacts := { ContactBlock.atPowerOn with settled := true } }

/-- A coil in GUARD that has lost sensing for 599 s, without an OAT point. -/
def blindCase : State :=
  withCoil State.reset 3 { serving defaultCoilConfig .guard (some .sensing) with unknown := 599 }

theorem witness_EvaluationTripsByTheFirstCondition :
    let hard := faced (serving defaultCoilConfig .watch (some .margin)) 100
    (∀ s ∈ [hard, doseNearTrip, contactCase, blindCase],
      s.coils.length = 16 ∧ (s.coil 3).evalTimer = true) ∧
    unlatched (hard.coil 3).state ∧ hardTrip (evaluatedRecord hard 3) ∧
    unlatched (doseNearTrip.coil 3).state ∧ ¬ hardTrip (evaluatedRecord doseNearTrip 3) ∧
    doseTrip (evaluatedRecord doseNearTrip 3) ∧
    unlatched (contactCase.coil 3).state ∧ ¬ hardTrip (evaluatedRecord contactCase 3) ∧
    ¬ doseTrip (evaluatedRecord contactCase 3) ∧
    contactTrip contactCase.contacts (evaluatedRecord contactCase 3) ∧
    unlatched (blindCase.coil 3).state ∧ ¬ doseTrip (evaluatedRecord blindCase 3) ∧
    blindTripHolds blindCase (evaluatedRecord blindCase 3) := by
  refine ⟨by decide, ?_, ⟨-200, by decide, by decide⟩, ?_, not_hardTrip (m := -1) (by decide) (by decide),
    ?_, ?_, not_hardTrip (m := 340) (by decide) (by decide), ?_,
    ⟨{ input := 4, polarity := .openCold }, by decide, by decide, { debounced := .opened, run := 0 },
      by decide, rfl⟩, ?_, ?_, ?_⟩
  · exact .inr (.inr (.inl (by decide)))
  · exact .inr (.inl (by decide))
  · show (_ : Nat) ≤ _; decide
  · exact .inr (.inl (by decide))
  · show ¬ (_ : Nat) ≤ _; decide
  · exact .inr (.inr (.inr (by decide)))
  · show ¬ (_ : Nat) ≤ _; decide
  · refine ⟨?_, ?_, ?_, (oatColdOrLost_iff blindCase _).mp ?_⟩ <;> decide

/-- Blind without a contact and without a hard band: the two other premises of the blind trip. -/
theorem witness_EvaluationTripsByTheFirstCondition_blind :
    ¬ hardTrip (evaluatedRecord blindCase 3) ∧
    ¬ contactTrip blindCase.contacts (evaluatedRecord blindCase 3) := by
  constructor
  · rintro ⟨m, h, -⟩
    exact absurd (h.symm.trans (by decide : (evaluatedRecord blindCase 3).eval.m = none)) (by simp)
  · rintro ⟨r, h, -⟩
    exact absurd (h.symm.trans (by decide : (evaluatedRecord blindCase 3).cfg.contact = none)) (by simp)

theorem noTrip_of {s : State} {k : Coil} {m : Int} (hm : k.eval.m = some m) (hb : -k.cfg.hardBand < m)
    (hd : k.eval.dose < k.cfg.tripDose) (hc : k.cfg.contact = none) (hs : k.eval.sensingLost = false) :
    noTrip s k := by
  refine ⟨not_hardTrip hm hb, Nat.not_le.mpr hd, ?_, ?_⟩
  · rintro ⟨r, h, -⟩
    simp [hc] at h
  · rintro ⟨-, h, -⟩
    simp [hs] at h

theorem guardCause_margin {b : ContactBlock} {k : Coil} (hs : k.eval.sensingLost = false)
    (h : predictedBelow k k.cfg.guardBand) : GuardCause b k (some .margin) :=
  ⟨by simp [hs], fun _ _ => rfl, fun _ n => absurd h n, fun _ n => absurd h n, fun _ n => absurd h n⟩

theorem guardCause_none {b : ContactBlock} {k : Coil} (hs : k.eval.sensingLost = false)
    (h : ¬ predictedBelow k k.cfg.guardBand) (hd : k.eval.dose = 0) (hp : ¬ heldByPlant b k) :
    GuardCause b k none :=
  ⟨by simp [hs], fun _ n => absurd n h, fun _ _ n => absurd n (by simp [hd]), fun _ _ _ n => absurd n hp,
    fun _ _ _ _ => rfl⟩

theorem watchCause_margin {k : Coil} (h : predictedBelow k k.cfg.watchBand) :
    WatchCause k (some .margin) :=
  ⟨fun _ => rfl, fun n => absurd h n, fun n => absurd h n⟩

theorem watchCause_none {k : Coil} (h : ¬ predictedBelow k k.cfg.watchBand) (hc : k.coldWeather = false) :
    WatchCause k none :=
  ⟨fun n => absurd n h, fun _ n => by simp [hc] at n, fun _ _ => rfl⟩

theorem not_heldByPlant {b : ContactBlock} {k : Coil} (h : k.cfg.followsPlantTrip = false) :
    ¬ heldByPlant b k := by
  rintro ⟨h', -⟩
  simp [h] at h'

/-- A coil in a state with two faces at a value, its dwell one evaluation short of a full hold. -/
def held (state : CoilState) (cause : Option Cause) (dwell : Nat) (value : Int) : State :=
  faced { serving defaultCoilConfig state cause with dwell := dwell } value

/-- What the witnesses below need of an evaluated record, at once. -/
theorem evaluated_facts (state : CoilState) (cause : Option Cause) (dwell : Nat) :
    (∀ v ∈ [(350 : Int), 450, 700],
      let k := evaluatedRecord (held state cause dwell v) 3
      k.eval.m = some (v - 300) ∧ k.eval.mp = some (v - 300) ∧ k.eval.dose = 0 ∧
      k.eval.sensingLost = false ∧ k.coldWeather = false ∧ k.cfg = defaultCoilConfig ∧
      k.eval.n = 2 ∧ k.eval.waterInPlace = true) := by
  intro v hv
  simp only [List.mem_cons, List.not_mem_nil, or_false] at hv
  rcases hv with rfl | rfl | rfl <;> exact ⟨rfl, rfl, rfl, rfl, rfl, rfl, rfl, rfl⟩

/-- At 350 the guard condition holds, at 450 the watch condition alone, at 700 neither; no trip anywhere. -/
theorem evaluated_causes (state : CoilState) (cause : Option Cause) (dwell : Nat) :
    (∀ v ∈ [(350 : Int), 450, 700],
      noTrip (held state cause dwell v) (evaluatedRecord (held state cause dwell v) 3) ∧
      GuardCause (held state cause dwell v).contacts (evaluatedRecord (held state cause dwell v) 3)
        (if v = 350 then some .margin else none) ∧
      WatchCause (evaluatedRecord (held state cause dwell v) 3)
        (if v = 700 then none else some .margin)) := by
  intro v hv
  obtain ⟨hm, hmp, hd, hs, hw, hk, -, -⟩ := evaluated_facts state cause dwell v hv
  have hv' : v = 350 ∨ v = 450 ∨ v = 700 := by simpa using hv
  refine ⟨noTrip_of hm ?_ ?_ ?_ hs, ?_, ?_⟩
  · rw [hk]; simp only [defaultCoilConfig]; omega
  · rw [hk, hd]; decide
  · rw [hk]; rfl
  · split
    · exact guardCause_margin hs ⟨v - 300, hmp, by rw [hk]; simp only [defaultCoilConfig]; omega⟩
    · exact guardCause_none hs (not_predictedBelow hmp (by rw [hk]; simp only [defaultCoilConfig]; omega)) hd
        (not_heldByPlant (by rw [hk]; rfl))
  · split
    · exact watchCause_none (not_predictedBelow hmp (by rw [hk]; simp only [defaultCoilConfig]; omega)) hw
    · exact watchCause_margin ⟨v - 300, hmp, by rw [hk]; simp only [defaultCoilConfig]; omega⟩

theorem witness_EvaluationInStartupAndNormal :
    (∀ v ∈ [(350 : Int), 450, 700], ∀ x ∈ [CoilState.startup, .normal],
      (held x none 119 v).coils.length = 16 ∧ ((held x none 119 v).coil 3).evalTimer = true ∧
      ((held x none 119 v).coil 3).state = x ∧
      defaultCoilConfig.startupHold ≤ (evaluatedRecord (held x none 119 v) 3).dwell ∧
      defaultCoilConfig.faceQuorum ≤ (evaluatedRecord (held x none 119 v) 3).eval.n ∧
      (evaluatedRecord (held x none 119 v) 3).eval.waterInPlace = true) ∧
    ¬ defaultCoilConfig.startupHold ≤ (evaluatedRecord (held .startup none 118 700) 3).dwell := by decide

theorem witness_EvaluationInWatchAndGuard :
    (∀ v ∈ [(350 : Int), 450, 700],
      (held .watch (some .margin) 59 v).coils.length = 16 ∧
      ((held .watch (some .margin) 59 v).coil 3).evalTimer = true ∧
      ((held .watch (some .margin) 59 v).coil 3).state = .watch ∧
      ((held .guard (some .margin) 299 v).coil 3).state = .guard) ∧
    (let k := evaluatedRecord (held .watch (some .margin) 59 700) 3;
      clearedBy k k.cfg.watchBand ∧ k.coldWeather = false ∧ k.cfg.watchDwell ≤ k.dwell) ∧
    (let k := evaluatedRecord (held .watch (some .margin) 58 700) 3;
      ¬ k.cfg.watchDwell ≤ k.dwell) ∧
    (let k := evaluatedRecord (held .guard (some .margin) 299 450) 3;
      clearedBy k k.cfg.guardBand ∧ ¬ heldByPlant (held .guard (some .margin) 299 450).contacts k ∧
        k.cfg.guardDwell ≤ k.dwell) ∧
    (let k := evaluatedRecord (held .guard (some .margin) 298 450) 3;
      ¬ k.cfg.guardDwell ≤ k.dwell) := by
  refine ⟨by decide, ⟨⟨rfl, 400, rfl, by decide⟩, rfl, by decide⟩, by decide,
    ⟨⟨rfl, 150, rfl, by decide⟩, not_heldByPlant rfl, by decide⟩, by decide⟩

/-- A latched coil with two faces at a value, auto_reset 120 and an auto-reset timer. -/
def latchedCase (state : CoilState) (autoReset : Option Nat) (timer : Nat) (value : Int) : State :=
  faced { serving { defaultCoilConfig with autoReset := autoReset } state (some .hard) with
    autoResetTimer := timer } value

theorem witness_EvaluationWhenLatched :
    (∀ x ∈ [CoilState.trip, .lockout],
      (latchedCase x none 5 700).coils.length = 16 ∧ ((latchedCase x none 5 700).coil 3).evalTimer = true ∧
      ((latchedCase x none 5 700).coil 3).state = x ∧
      (evaluatedRecord (latchedCase x none 5 700) 3).cfg.autoReset = none) ∧
    (let k := evaluatedRecord (latchedCase .trip (some 120) 118 700) 3;
      k.cfg.autoReset = some 120 ∧ 0 < 120 ∧
      clearHolds (latchedCase .trip (some 120) 118 700).contacts k ∧ min 3600 (k.autoResetTimer + 1) < 120) ∧
    (let k := evaluatedRecord (latchedCase .trip (some 120) 119 700) 3;
      clearHolds (latchedCase .trip (some 120) 119 700).contacts k ∧ 120 ≤ min 3600 (k.autoResetTimer + 1)) ∧
    ¬ clearHolds (latchedCase .trip (some 120) 119 299).contacts
      (evaluatedRecord (latchedCase .trip (some 120) 119 299) 3) := by
  refine ⟨by decide, ⟨rfl, by decide, ⟨fun r h => (nomatch h), 400, rfl, by decide⟩, by decide⟩,
    ⟨⟨fun r h => (nomatch h), 400, rfl, by decide⟩, by decide⟩, ?_⟩
  rintro ⟨-, m, h, hm⟩
  have : (evaluatedRecord (latchedCase .trip (some 120) 119 299) 3).eval.m = some (-1) := by decide
  rw [this] at h
  cases h
  exact absurd hm (by decide)

/-! ### Witnesses: management requests -/

theorem reset_takesRequests : State.reset.takesRequests := by
  refine ⟨?_, ?_, ?_⟩ <;> decide

/-- An argument list of each request that is MALFORMED, by a boundary value where it has one (R171, R179). -/
def malformedRequests : List Instr :=
  [.loadCoil 240 [16, 2], .loadCoil 240 [0], .loadPoint 240 [200, 0, 5, 1, 0, 0], .loadPoint 240 [12, 0, 16, 7, 0, 0],
    .clearPoint 240 [12, 64], .loadRule 240 [5, 40, 3, 5, 2, 0, 0, 1, 0], .loadRule 240 [5, 40, 3, 0, 2, 0, 0, 1],
    .clearRule 240 [5, 40, 3, 4], .loadRelaySet 240 [0], .enableCoil 240 [16], .disableCoil 240 [16],
    .resetCoil 240 [3, 2], .setPorts 240 [23, 2, 23, 0, 0, 50, 4, 10, 5, 1], .status 240 [2],
    .readCounters 240 [0, 0], .commit 240 [0], .restart 240 [0], .coilDetail 240 [0, 3], .readPoints 240 [96],
    .readActuator 240 [48]]

/-- R171, R172: each is answered MALFORMED. -/
theorem test_malformed_requests : ∀ i ∈ malformedRequests,
    (after i State.reset).trunkOut.filled.map (fun o => o.telegram.payload.drop 1) = [[0x13#8]] := by decide

/-- The premises of the MALFORMED clauses hold of such lists; the widths are those of the block. -/
theorem witness_MalformedArguments :
    coilWidths = 1 :: configWidths ∧ coilWidths.sum = 42 ∧ (¬ endsAtField coilWidths 2 [0]) ∧
    (¬ endsAtField [1, 1, 1, 1, 2, 2, 2] 5 [12, 0, 5, 1, 0]) ∧
    (¬ endsAtField [1, 1, 1, 1, 1, 1, 2, 1, 2] 8 (List.replicate 10 1)) ∧
    16 ≤ argument [16, 2] 0 ∧ ¬ argumentIsStation [200] 0 ∧ ¬ argumentIsStation [0] 0 ∧
    ¬ (argument [12, 0, 16, 7, 0, 0] 2 = 16 ↔ argument [12, 0, 16, 7, 0, 0] 3 = 8) ∧
    32 ≤ argument (List.replicate 41 32) 40 ∧ argument (List.replicate 41 254) 40 < 255 ∧
    4 ≤ argument (List.replicate 42 4) 41 := by
  refine ⟨by decide, by decide, ?_, ?_, ?_, by decide, fun h => absurd h.2 (by decide),
    fun h => absurd h.1 (by decide), by decide, by decide, by decide, by decide⟩
  all_goals
    rintro ⟨n, h1, h2, h3⟩
    revert h3
    simp only [coilWidths, List.length_cons, List.length_nil] at h2
    interval_cases n <;> decide

theorem witness_RequestsTurnedAwayBusy :
    adminRequest (.status 240 []) = some (240, 0x0B#8) ∧ adminRequest (.commit 240 []) = some (240, 0x0D#8) ∧
    7 ≤ (7 : Nat) ∧ (7 : Nat) + ([] : List OutTelegram).length < 10 ∧
    10 ≤ (7 : Nat) + (List.replicate 3 (OutTelegram.mk readOf12 .plain)).length ∧
    (let s : State := { State.reset with restartPending := true };
      s.trunkOut.canReserve = true ∧ s.restartPending = true) ∧
    (let s : State := { State.reset with
        commit := some { requester := 240, contents := State.reset.imageContents } };
      s.trunkOut.canReserve = true ∧ s.commit ≠ none) ∧
    refusedDuringCommit 0x0D#8 = true := by decide

theorem witness_RefusedRequestsChangeNothing :
    adminRequest (.clearPoint 240 [12, 64]) = some (240, 0x03#8) ∧
    adminRequest (.commit 240 []) = some (240, 0x0D#8) ∧ State.reset.trunkOut.canReserve = true := by decide

theorem witness_LoadCoilStoresClampedFields :
    State.reset.takesRequests ∧
    FitsBlock { defaultCoilConfig with autoReset := some 65535, coldWeatherOat := some (-32767),
                                       watchBand := -32768, hardBand := 32767, hysteresis := 255 } ∧
    (State.reset.coil 0).state = .offline ∧ (doseCase.coil 3).state ≠ .offline ∧ doseCase.takesRequests := by
  refine ⟨reset_takesRequests, ⟨by decide, by decide, by decide, by decide, ?_, ?_⟩, by decide, by decide,
    ⟨by decide, by decide, by decide⟩⟩
  · intro n h; cases h; decide
  · intro z h; cases h; decide

/-- The request of section 1.10, step 2. -/
def pointRequest : PointConfig :=
  { station := 12, channel := 0, owner := .coil 5, role := .face 1, offset := 0, maxAge := 60,
    pollInterval := 90 }

theorem pointRequest_asked : PointRequest pointRequest :=
  ⟨by decide, by decide, fun i h => by cases h; decide, .inl ⟨5, rfl, by decide⟩, by decide⟩

/-- A map with one point that has a key, an owner and a role. -/
def mapWith (p : PointConfig) : State := withPointEntries State.reset [freshEntry p 0]

theorem mem_mapWith {p : PointConfig} {e : PointEntry} (h : some e ∈ (mapWith p).points) :
    e = freshEntry p 0 := by
  simpa [mapWith, withPointEntries, List.mem_replicate] using h

theorem ownerRests_reset (owner : Owner) : ownerRests State.reset owner := by
  have h : ∀ c, (State.reset.coil c).state = .offline := by decide
  exact fun c _ => h c

theorem ownerRests_mapWith (p : PointConfig) (owner : Owner) : ownerRests (mapWith p) owner :=
  ownerRests_reset owner

/-- A replacement, a new key, a duplicate, and a full map; and an owner in service. -/
theorem witness_LoadPointPlacesItsEntry :
    State.reset.takesRequests ∧ PointRequest pointRequest ∧
    -- the key held, at index 0
    ((mapWith pointRequest).points[0]? = some (some (freshEntry pointRequest 0)) ∧
      sameKeyAs pointRequest (freshEntry pointRequest 0) ∧ ownerRests (mapWith pointRequest) pointRequest.owner ∧
      (∀ e, some e ∈ (mapWith pointRequest).points → ¬ sameKeyAs pointRequest e →
        e.cfg.owner = pointRequest.owner → e.cfg.role ≠ pointRequest.role)) ∧
    -- a new key, with index 0 the lowest free
    ((∀ e, some e ∈ State.reset.points → ¬ sameKeyAs pointRequest e) ∧ State.reset.points[0]? = some none) ∧
    -- no index free
    none ∉ (List.replicate 96 (some (freshEntry { pointRequest with channel := 1, role := .face 2 } 0))) ∧
    -- another entry with the same owner and role
    (¬ ∀ e, some e ∈ (mapWith { pointRequest with channel := 2 }).points → ¬ sameKeyAs pointRequest e →
      e.cfg.owner = pointRequest.owner → e.cfg.role ≠ pointRequest.role) ∧
    -- an owner in service
    ¬ ownerRests (withCoil State.reset 5 (serving defaultCoilConfig .normal none)) pointRequest.owner := by
  refine ⟨reset_takesRequests, pointRequest_asked, ⟨rfl, ⟨rfl, rfl⟩, ownerRests_mapWith _ _, ?_⟩, ⟨?_, rfl⟩,
    by decide, ?_, ?_⟩
  · intro e h n
    rw [mem_mapWith h] at n
    exact absurd ⟨rfl, rfl⟩ n
  · intro e h
    simp [State.reset] at h
  · intro h
    exact h (freshEntry { pointRequest with channel := 2 } 0) (by decide) (by rintro ⟨-, h⟩; cases h) rfl rfl
  · intro h
    exact absurd (h 5 rfl) (by decide)

theorem witness_ClearPointFreesItsIndex :
    (mapWith pointRequest).points[0]? = some (some (freshEntry pointRequest 0)) ∧
    sameKeyAs pointRequest (freshEntry pointRequest 0) ∧
    ownerRests (mapWith pointRequest) (freshEntry pointRequest 0).cfg.owner ∧
    ¬ ownerRests (withCoil (mapWith pointRequest) 5 (serving defaultCoilConfig .normal none))
      (freshEntry pointRequest 0).cfg.owner ∧
    (∀ e, some e ∈ State.reset.points → ¬ sameKeyAs pointRequest e) := by
  refine ⟨rfl, ⟨rfl, rfl⟩, ownerRests_mapWith _ _, fun h => absurd (h 5 rfl) (by decide), ?_⟩
  intro e h
  simp [State.reset] at h

/-- Rule 6 of section 1.10. -/
def rule6 : OverrideRule :=
  { coil := 5, station := 40, channel := 3, tag := .heatingValve, level := .g, mode := .floor, value := 600,
    refresh := 45, restore := true }

/-- A rule table with one rule at index 0. -/
def rulesWith (r : OverrideRule) : State :=
  { State.reset with rules := some r :: List.replicate 47 none }

theorem mem_rulesWith {r q : OverrideRule} (h : some q ∈ (rulesWith r).rules) : q = r := by
  simpa [rulesWith, List.mem_replicate] using h

theorem witness_LoadRulePlacesItsRule :
    (1 ≤ rule6.station ∧ rule6.station ≤ 199) ∧ rule6.channel ≤ 63 ∧ rule6.refresh < 65536 ∧
    (State.reset.coil rule6.coil).state = .offline ∧
    -- its key held, at index 0
    ((rulesWith rule6).rules[0]? = some (some rule6) ∧ sameRuleKey rule6 rule6) ∧
    -- a new key, with index 0 the lowest free
    ((∀ q, some q ∈ State.reset.rules → ¬ sameRuleKey rule6 q) ∧ State.reset.rules[0]? = some none) ∧
    -- a new key and no index free
    ((∀ q, some q ∈ List.replicate 48 (some { rule6 with channel := 9 }) → ¬ sameRuleKey rule6 q) ∧
      none ∉ List.replicate 48 (some { rule6 with channel := 9 })) ∧
    ((withCoil State.reset 5 (serving defaultCoilConfig .normal none)).coil rule6.coil).state ≠ .offline ∧
    ({ rule6 with refresh := 60 } : OverrideRule).refresh = 60 := by
  refine ⟨by decide, by decide, by decide, by decide, ⟨rfl, rfl, rfl, rfl, rfl⟩, ⟨?_, rfl⟩, ⟨?_, by decide⟩,
    by decide, rfl⟩
  · intro q h
    simp [State.reset] at h
  · intro q h
    have h' : q = { rule6 with channel := 9 } := by simpa [List.mem_replicate] using h
    rintro ⟨-, -, hc, -⟩
    rw [h'] at hc
    cases hc

theorem witness_ClearRuleFreesItsIndex :
    let two : State := { State.reset with
      rules := some rule6 :: some { rule6 with level := .t } :: List.replicate 46 none }
    (two.rules[0]? = some (some rule6) ∧ sameRuleKey rule6 rule6 ∧ (two.coil 5).state = .offline ∧
      ∃ q, some q ∈ two.rules.set 0 none ∧ q.station = rule6.station ∧ q.channel = rule6.channel) ∧
    ((rulesWith rule6).rules[0]? = some (some rule6) ∧
      ∀ q, some q ∈ (rulesWith rule6).rules.set 0 none →
        ¬ (q.station = rule6.station ∧ q.channel = rule6.channel)) ∧
    ((withCoil (rulesWith rule6) 5 (serving defaultCoilConfig .normal none)).coil rule6.coil).state ≠ .offline ∧
    (∀ q, some q ∈ State.reset.rules → ¬ sameRuleKey rule6 q) := by
  refine ⟨⟨rfl, ⟨rfl, rfl, rfl, rfl⟩, by decide, { rule6 with level := .t }, by decide, rfl, rfl⟩, ⟨rfl, ?_⟩,
    by decide, ?_⟩
  · intro q h
    simp [rulesWith] at h
  · intro q h
    simp [State.reset] at h

theorem witness_LoadRelaySetReplacesTheSet :
    (let set : List Byte := (List.range 32).map (fun n => BitVec.ofNat 8 (168 + n));
      set.length ≤ 32 ∧ (∀ a ∈ set, 1 ≤ a.toNat ∧ a.toNat ≤ 199) ∧ set.Nodup) ∧
    32 < (List.replicate 33 (1 : Byte)).length ∧ (∃ a ∈ [(200 : Byte)], a.toNat = 0 ∨ 199 < a.toNat) ∧
    ¬ ([12, 12] : List Byte).Nodup := by decide

theorem witness_SetPortsStagesItsSettings : State.reset.takesRequests ∧ 65535 < 65536 :=
  ⟨reset_takesRequests, by decide⟩

/-- The point of section 1.10 as stored. -/
def facePoint : PointConfig := { pointRequest with pollInterval := 59 }

/-- Coil 5 OFFLINE with two faces and the rule of section 1.10. -/
def readyCoil : State :=
  withPointEntries (rulesWith rule6)
    [freshEntry facePoint 0, freshEntry { facePoint with channel := 1, role := .face 2 } 0]

theorem witness_EnableCoilEntersStartup :
    (let faces := ((readyCoil.points.filterMap id).filter (fun e => e.cfg.owner == .coil 5 &&
        Machine.Role.isFace e.cfg.role)).length;
      (readyCoil.coil 5).state = .offline ∧ (readyCoil.coil 5).cfg.faceQuorum ≤ faces) ∧
    (∃ q, some q ∈ readyCoil.rules ∧ q.coil = 5 ∧ (q.tag = .heatingValve ∨ q.tag = .pump) ∧ q.level ≠ .t) ∧
    (let faces := ((State.reset.points.filterMap id).filter (fun e => e.cfg.owner == .coil 5 &&
        Machine.Role.isFace e.cfg.role)).length;
      faces < (State.reset.coil 5).cfg.faceQuorum) ∧
    (doseCase.coil 3).state ≠ .offline ∧ readyCoil.takesRequests ∧ readyCoil.coils.length = 16 := by
  refine ⟨by decide, ⟨rule6, by decide, rfl, .inl rfl, by decide⟩, by decide, by decide,
    ⟨by decide, by decide, by decide⟩, by decide⟩

theorem witness_DisableCoilEntersOffline :
    unlatched (doseCase.coil 3).state ∧ doseCase.takesRequests ∧ doseCase.coils.length = 16 ∧
    ((latchedCase .trip none 0 700).coil 3).state = .trip ∧ (State.reset.coil 3).state = .offline ∧
    16 ≤ argument [16] 0 :=
  ⟨.inr (.inl rfl), ⟨by decide, by decide, by decide⟩, by decide, by decide, by decide, by decide⟩

/-- A latched coil whose clear conditions hold. -/
def clearCase (state : CoilState) : State :=
  withCoil State.reset 3 { serving defaultCoilConfig state (some .hard) with
    eval := { EvalRuntime.initial with m := some 0 } }

theorem witness_ResetCoilEntersGuard :
    ((clearCase .trip).coil 3).state = .trip ∧
    clearHolds (clearCase .trip).contacts ((clearCase .trip).coil 3) ∧
    ((clearCase .lockout).coil 3).state = .lockout ∧
    clearHolds (clearCase .lockout).contacts ((clearCase .lockout).coil 3) ∧
    ¬ ((doseCase.coil 3).state = .trip ∨ (doseCase.coil 3).state = .lockout) ∧
    ¬ clearHolds (latchedCase .trip none 0 700).contacts ((latchedCase .trip none 0 700).coil 3) ∧
    ((latchedCase .trip none 0 700).coil 3).state = .trip ∧
    (clearCase .trip).takesRequests ∧ (clearCase .trip).coils.length = 16 ∧
    16 ≤ argument [16, 0] 0 ∧ 2 ≤ argument [3, 2] 1 := by
  refine ⟨rfl, ⟨fun r h => (nomatch h), 0, rfl, by decide⟩, rfl, ⟨fun r h => (nomatch h), 0, rfl, by decide⟩,
    by decide, ?_, rfl, ⟨by decide, by decide, by decide⟩, by decide, by decide, by decide⟩
  rintro ⟨-, m, h, -⟩
  exact (nomatch h)

theorem witness_ReadRequestsReplyWithTheirData :
    State.reset.trunkOut.canReserve = true ∧ State.reset.restartPending = false ∧
    16 ≤ (16#8 : Byte).toNat ∧ 3 ≤ (3#8 : Byte).toNat ∧
    (95#8 : Byte).toNat < 96 ∧ 96 ≤ (96#8 : Byte).toNat ∧ (47#8 : Byte).toNat < 48 ∧
    48 ≤ (48#8 : Byte).toNat := by decide

/-- R178, R179: a walk of the point map from index 1, of three points, reports two with no other to follow;
from index 0 the next index is 2. -/
theorem test_readPoints_next_index :
    let s := withPointEntries State.reset
      [agedPoint none, agedPoint none, agedPoint (some 5033)]
    ((after (.readPoints 240 [1]) s).trunkOut.filled.map (fun o => o.telegram.payload.take 5)) =
      [[0x10#8, 0, 0xFF, 2, 1]] ∧
    ((after (.readPoints 240 [0]) s).trunkOut.filled.map (fun o => o.telegram.payload.take 5)) =
      [[0x10#8, 0, 2, 2, 0]] := by decide

/-! ### Witnesses: the settings store and RESTART -/

/-- A part that writes its own contents. -/
def committing (fallback : Bool) : State :=
  { State.reset with
    fallback := fallback, commit := some { requester := 240, contents := State.reset.imageContents },
    trunkOut := { reserved := 1, filled := [] } }

theorem witness_CommitWritesTheImage :
    State.reset.takesRequests ∧
    (committing true).commit = some { requester := 240, contents := State.reset.imageContents } ∧
    (committing true).fallback = true ∧ (committing false).fallback = false :=
  ⟨reset_takesRequests, rfl, rfl, rfl⟩

theorem witness_PowerOnWithoutImageIsFallback :
    (committing true).commit ≠ none ∧ (∀ m, ¬ passesWith State.reset.store m) ∧
    -- a valid image whose check word is another than the one over its contents
    (∀ m, ¬ passesWith { condition := .valid, contents := some m, checkWord := some (checkOf m + 1) } m) := by
  refine ⟨by decide, fun m h => (nomatch h.1), fun m h => ?_⟩
  have := Option.some.inj h.2.2
  generalize checkOf m = w at this
  bv_omega

/-- An image with coil 5 in service over two points and a rule. -/
def imageOf5 : ImageContents :=
  { readyCoil.imageContents with coils := readyCoil.imageContents.coils.set 5 (defaultCoilConfig, true) }

theorem witness_PowerOnTakesTheImage :
    let s : State := { State.reset with
      store := { condition := .valid, contents := some imageOf5, checkWord := some (checkOf imageOf5) } }
    s.commit = none ∧ passesWith s.store imageOf5 ∧ ImageShaped imageOf5 :=
  ⟨rfl, ⟨rfl, rfl, rfl⟩, by decide, by decide, by decide⟩

/-- The image that a COMMIT writes passes its check at a power-on (R184, R186). -/
theorem test_written_image_passes (m : ImageContents) : passesWith (Store.written m) m := by
  refine ⟨rfl, rfl, ?_⟩
  simp only [Store.written, imageCheck, imageBytes, checkOf, List.append_assoc]

theorem witness_RestartWaitsForItsReply :
    let reply : OutTelegram := { telegram := readOf12, role := .restart }
    let s := { trunkSending .listHead [reply] with
      records := (withRecord State.reset (floored (.protect 7) (some 45))).records }
    State.reset.takesRequests ∧ s.coils.length = 16 ∧ s.trunk.tx = some (txAt 377 .listHead) ∧
    (txAt 377 .listHead).owner = .listHead ∧ s.trunkOut.filled = reply :: [] ∧ reply.role = .restart ∧
    s.records[0]? = some (some (floored (.protect 7) (some 45))) ∧ s.records[1]? = some none ∧
    s.notice.coils.length = 16 ∧ s.contacts.driven = s.wantsDrive :=
  ⟨reset_takesRequests, by decide, rfl, rfl, rfl, rfl, rfl, rfl, by decide, by decide⟩

/-! ### Witnesses: actuator overrides and the grant -/

theorem witness_ConstraintAndItsValue :
    (constraintOf [rule6]).isSome = true ∧
    (let k := Constraint.mk 600 450 true true 45 true; k.hi < k.lo) ∧
    (let k := Constraint.mk 600 600 false true 45 true;
      k.lo ≤ k.hi ∧ within 0 1000 599 < k.lo ∧ k.hi < within 0 1000 1001 ∧
        k.lo ≤ within 0 1000 600 ∧ within 0 1000 600 ≤ k.hi) ∧
    (∀ r ∈ [rule6], 0 ≤ r.value ∧ r.value ≤ 1000) ∧
    [rule6, { rule6 with level := .t }].Perm [{ rule6 with level := .t }, rule6] ∧
    -- a recomputation: rule 6 active from level 2 on, its record restored or not below
    (constraintOf (activeRules [some rule6] [0, 0, 0, 0, 0, 2] 40 3)).isSome = true ∧
    constraintOf (activeRules [some rule6] [0, 0, 0, 0, 0, 1] 40 3) = none ∧
    (∃ b v, (floored (.protect 7) none).constraint = some b ∧ b.restoreAsked = true ∧
      (floored (.protect 7) none).cmdLast = some v ∧ (floored (.protect 7) none).ackedValue ≠ some v) ∧
    (let r : ActuatorRecord := { floored (.protect 7) none with cmdLast := none };
      r.constraint ≠ none ∧ ∀ v, r.cmdLast ≠ some v) ∧
    (ActuatorRecord.fresh 40 3).constraint = none := by
  refine ⟨by decide, by decide, by decide, by decide, .swap _ _ _, by decide, by decide,
    ⟨_, 350, rfl, rfl, rfl, by decide⟩, ⟨by decide, fun v h => (nomatch h)⟩, rfl⟩

theorem witness_EchoIsTakenByItsRecord :
    (∃ k, (floored (.protect 7) none).constraint = some k) ∧
    (let r : ActuatorRecord := { ActuatorRecord.fresh 40 3 with
        cmdLast := some 350, need := .restore 1800, sentValue := some 350 };
      r.constraint = none ∧ r.need = .restore 1800 ∧ (∃ v, r.sentValue = some v ∧ v ≠ 349)) ∧
    (let r := ActuatorRecord.fresh 40 3; r.constraint = none ∧ ∀ t, r.need ≠ .restore t) :=
  ⟨⟨_, rfl⟩, ⟨rfl, rfl, 350, rfl, by decide⟩, rfl, fun t h => (nomatch h)⟩

/-- The branch free for a grant at second 7000, with one record at index 0, a relay queue and a count. -/
def grantReady (r : ActuatorRecord) (queue : List Telegram) (fairness : Nat) : State :=
  { withRecord State.reset r with
    plantClock := 7000, relayQueue := queue, fairness := fairness,
    branch := { State.reset.branch with lineIdle := true } }

theorem mem_withRecord {s : State} {r q : ActuatorRecord} (h : some q ∈ (withRecord s r).records) : q = r := by
  simpa [withRecord, List.mem_replicate] using h

theorem at_withRecord {s : State} {r q : ActuatorRecord} {j : Nat}
    (h : (withRecord s r).records[j]? = some (some q)) : q = r :=
  mem_withRecord (List.mem_of_getElem? h)

theorem oldestOffer_grantReady {r : ActuatorRecord} {queue : List Telegram} {n : Nat} {kind : Need → Prop}
    (hk : kind r.need) (hr : r.retryNotBefore = none) : oldestOffer (grantReady r queue n) kind 0 r := by
  refine ⟨rfl, ⟨hk, fun t h => by rw [hr] at h; cases h⟩, ?_⟩
  intro j q h _
  have : q = r := at_withRecord (s := State.reset) h
  exact .inr ⟨by rw [this], Nat.zero_le j⟩

theorem witness_GrantOfAnOwnSet :
    let protect := floored (.protect 6990) (some 45)
    let refresh := floored (.refresh 6990) (some 45)
    (grantOpen (grantReady protect [readOf12] 2) ∧
      oldestOffer (grantReady protect [readOf12] 2) isProtectNeed 0 protect ∧
      (grantReady protect [readOf12] 2).fairness ≠ 3) ∧
    (grantOpen (grantReady refresh [] 3) ∧
      (∀ q, some q ∈ (grantReady refresh [] 3).records → ¬ offersNeed (grantReady refresh [] 3) isProtectNeed q) ∧
      oldestOffer (grantReady refresh [] 3) isHousekeepingNeed 0 refresh) ∧
    (protect.Law ∧ protect.need ≠ .none) := by
  refine ⟨⟨⟨rfl, rfl, rfl⟩, oldestOffer_grantReady ⟨_, rfl⟩ rfl, by decide⟩,
    ⟨⟨rfl, rfl, rfl⟩, ?_, oldestOffer_grantReady (.inr ⟨_, rfl⟩) rfl⟩, ⟨?_, by decide⟩⟩
  · intro q h
    rw [mem_withRecord (s := State.reset) h]
    rintro ⟨⟨t, h⟩, -⟩
    exact (nomatch h)
  · exact ⟨by decide, by decide, fun k h => by cases h; decide, fun v h => by cases h; decide,
      fun t h => (nomatch h), fun h => (nomatch h), rfl⟩

theorem witness_GrantOfARelayedRequest :
    let protect := floored (.protect 6990) (some 45)
    let quiet := floored .none (some 45)
    (grantOpen (grantReady protect [readOf12, setOf12] 3) ∧
      (grantReady protect [readOf12, setOf12] 3).relayQueue = readOf12 :: [setOf12] ∧
      (grantReady protect [readOf12, setOf12] 3).fairness = 3) ∧
    (∀ q, some q ∈ (grantReady quiet [setOf12] 0).records →
      ¬ offersNeed (grantReady quiet [setOf12] 0) isProtectNeed q) ∧
    readOf12.code ≠ 3 ∧ setOf12.code = 3 ∧
    recordFor (grantReady quiet [] 0).records 12 0 = none ∧
    recordFor (grantReady quiet [] 0).records 40 3 = some quiet ∧
    recordFor (withRecord State.reset (ActuatorRecord.fresh 12 0)).records 12 0 =
      some (ActuatorRecord.fresh 12 0) := by
  refine ⟨⟨⟨rfl, rfl, rfl⟩, rfl, rfl⟩, ?_, by decide, by decide, by decide, by decide, by decide⟩
  intro q h
  rw [mem_withRecord (s := State.reset) h]
  rintro ⟨⟨t, h⟩, -⟩
  exact (nomatch h)

/-- A branch free for a grant, one point with a raised poll need, nothing else offered. -/
def pollReady : State :=
  { withPointEntries State.reset [freshEntry facePoint 0] with
    branch := { State.reset.branch with lineIdle := true } }

theorem witness_GrantOfAPoll :
    grantOpen pollReady ∧ pollReady.relayQueue = [] ∧
    (∀ q, some q ∈ pollReady.records →
      ¬ offersNeed pollReady isProtectNeed q ∧ ¬ offersNeed pollReady isHousekeepingNeed q) ∧
    oldestPollNeed pollReady 0 (freshEntry facePoint 0) ∧
    (∀ e, some e ∈ State.reset.points → e.rt.pollNeed = false) := by
  refine ⟨⟨rfl, rfl, rfl⟩, rfl, ?_, ⟨rfl, rfl, ?_⟩, ?_⟩
  · intro q h
    simp [pollReady, withPointEntries, State.reset] at h
  · intro j q h _
    have hm := List.mem_of_getElem? h
    have : q = freshEntry facePoint 0 := by
      simpa [pollReady, withPointEntries, List.mem_replicate] using hm
    rw [this]
    exact Nat.zero_le j
  · intro e h
    simp [State.reset] at h

/-! ### Witnesses: contacts and samples -/

theorem witness_ContactChangeTripsItsCoils :
    let named (state : CoilState) := { serving { defaultCoilConfig with
      contact := some { input := 4, polarity := .closedCold } } state none with tripHistory := [] }
    let s := withCoil contactCase 6 (named .guard)
    s.coils.length = 16 ∧ s.heldLevels.length = 16 ∧ s.contacts.inputs.length = 16 ∧
    s.contacts.settled = true ∧
    (s.contacts.inputs[(4 : Fin 16).val]?).map ContactInput.debounced ≠ some .closed ∧
    turnsCold (s.coil 6) 4 .closed ∧ unlatched (s.coil 6).state ∧ s.notice.coils.length = 16 ∧
    turnsCold (named .trip) 4 .closed ∧ (named .trip).state = .trip ∧
    ¬ turnsCold (s.coil 3) 4 .closed := by
  refine ⟨by decide, by decide, by decide, by decide, by decide, ⟨_, rfl, rfl, rfl⟩,
    .inr (.inr (.inr (by decide))), by decide, ⟨_, rfl, rfl, rfl⟩, rfl, ?_⟩
  rintro ⟨r, h, -, hn⟩
  have hr : some r = some { input := 4, polarity := .openCold } :=
    h.symm.trans (by decide)
  cases hr
  exact (nomatch hn)

theorem witness_TripLineEvents :
    let driving : ContactBlock := { ContactBlock.atPowerOn with settled := true, driven := true }
    let releasing : ContactBlock := { ContactBlock.atPowerOn with
      settled := true, recognition := .releasing, releaseTimer := some 80 }
    ContactBlock.atPowerOn.settled = false ∧ ContactBlock.atPowerOn.senseHigh ≠ false ∧
    ContactBlock.atPowerOn.driven = false ∧ driving.senseHigh ≠ false ∧ driving.driven = true ∧
    releasing.recognition = .releasing ∧ releasing.driven = false ∧ releasing.releaseTimer = some 80 ∧
    ({ releasing with senseHigh := false } : ContactBlock).senseHigh ≠ true := by decide

theorem witness_TickComparesEveryInput :
    let s := contactCase
    s.contacts.inputs.length = 16 ∧ s.contacts.settled = true ∧ true = s.contacts.senseHigh ∧
    -- no sample differs
    (s.contacts.inputs.mapIdx (fun i x =>
      if pinSample 0xFFFF#16 i = x.debounced then { x with run := 0 }
      else if x.run + 1 < s.globals.contactDebounce then { x with run := x.run + 1 }
      else { debounced := pinSample 0xFFFF#16 i, run := 0 })).map ContactInput.debounced =
      s.contacts.inputs.map ContactInput.debounced ∧
    s.contacts.releaseTimer = none ∧
    -- input 4 completes its debounce alone
    (let b := s.contacts.inputs.set 4 { debounced := .opened, run := 3 };
      b[(4 : Fin 16).val]? = some { debounced := .opened, run := 3 } ∧
      ContactState.opened ≠ pinSample 0xFFEF#16 4 ∧ s.globals.contactDebounce ≤ 3 + 1 ∧
      ∀ j, j < 16 → j ≠ 4 → ∀ y, b[j]? = some y → pinSample 0xFFEF#16 j = y.debounced) ∧
    -- the sense completes its debounce, the block settles, a release timer runs out
    (false ≠ s.contacts.senseHigh ∧ s.globals.contactDebounce ≤ 3 + 1) ∧
    (State.reset.contacts.settled = false ∧ State.reset.globals.contactDebounce ≤ 3 + 1) ∧
    (s.contacts.driven = false ∧ (some 1 : Option Nat).map (· - 1) = some 0) := by
  refine ⟨by decide, by decide, by decide, by decide, by decide, ⟨by decide, by decide, by decide, ?_⟩,
    by decide, by decide, by decide⟩
  intro j hj h4 y hy
  have hy' : y = { debounced := .opened, run := 0 } := by
    rw [List.getElem?_set_ne (by omega)] at hy
    have hm := List.mem_of_getElem? hy
    simpa [contactCase, ContactBlock.atPowerOn, List.mem_replicate] using hm
  rw [hy']
  have hall : ∀ j : Fin 16, j.val ≠ 4 → pinSample 0xFFEF#16 j.val = .opened := by decide
  exact hall ⟨j, hj⟩ h4

/-- R115, R117, R110: the sense goes LOW at the tick that completes its debounce; a release timer with one tick
left expires at the next; in fallback the settling tick drives the line when inputs stay OPEN. -/
theorem test_tick_sense_release_settling :
    (after (.tick 0xFFFF false) { contactCase with contacts := { contactCase.contacts with senseRun := 3 } }
      ).contacts.recognition = .asserted ∧
    (after (.tick 0xFFFF true) { contactCase with
      contacts := { contactCase.contacts with recognition := .releasing, releaseTimer := some 1 } }
      ).contacts.recognition = .clear ∧
    (after (.tick 0xFFFF true) { State.reset with contacts := { State.reset.contacts with ticks := 3 } }
      ).contacts.driven = true := by decide

theorem witness_SamplesDecideBits :
    let c (index : Nat) (middle : Level) (bits : List Bool) (gap : Option Nat := none) : CharSampler :=
      { index := index, eighth := middle, ninth := middle, bits := bits, noise := false, gapLeft := gap }
    let s (x : CharSampler) : State := { hearing 0 with trunk := { (hearing 0).trunk with sampler := some x } }
    ((s (c 8 .mark [])).port .trunk).tx = none ∧ ((s (c 8 .mark [])).port .trunk).waitMark = false ∧
    ((s (c 8 .mark [])).port .trunk).sampler = some (c 8 .mark []) ∧ (c 8 .mark []).index % 16 ≠ 9 ∧
    (c 9 .mark []).index % 16 = 9 ∧
    (∀ l, twoOfThree (c 9 .mark []).eighth (c 9 .mark []).ninth l = .mark) ∧
    (c 9 .mark []).gapLeft = none ∧ (c 9 .mark [] (some 300)).gapLeft ≠ none ∧
    (∀ l, twoOfThree (c 9 .space []).eighth (c 9 .space []).ninth l = .space) ∧
    (c 25 .mark [false]).index % 16 = 9 ∧ (c 25 .mark [false]).bits ≠ [] ∧
    (c 25 .mark [false]).bits.length ≠ 10 ∧
    (c 169 .mark (false :: List.replicate 9 true)).index % 16 = 9 ∧
    (c 169 .mark (false :: List.replicate 9 true)).bits.length = 10 := by
  refine ⟨by decide, by decide, by decide, by decide, by decide, fun l => by cases l <;> decide, by decide,
    by decide, fun l => by cases l <;> decide, by decide, by decide, by decide, by decide, by decide⟩

/-- R122, R140: a mark sample decides the stop bit, which completes the character, and counts for the idle
line. -/
theorem test_mark_decides_stop_bit :
    let c : CharSampler := { index := 169, eighth := .mark, ninth := .mark, noise := false, gapLeft := none,
                             bits := [false, false, false, true, true, false, false, false, false, true] }
    let t := after (.sampleAtMark .trunk)
      { hearing 0 with trunk := { (hearing 0).trunk with sampler := some c } }
    t.trunk.receiver = .assemble [12] ∧ t.trunk.idleCount = 1 ∧ t.trunk.sampler = none := by decide

/-! ### Witnesses: the laws that every step keeps -/

/-- A part in service: coil 5 in STARTUP over two points and a rule with its record; a READ relayed and
queued, and a READ-COUNTERS waiting. -/
def lawful : State :=
  { readyCoil with
    fallback := false,
    coils := readyCoil.coils.set 5 { (Coil.atPowerOn defaultCoilConfig true).started with state := .startup },
    heldLevels := readyCoil.heldLevels.set 5 2,
    records := some (recomputeRecord readyCoil.rules (readyCoil.heldLevels.set 5 2) 0 (.fresh 40 3)) ::
      List.replicate 47 none,
    relaySet := [12], relayQueue := [readOf12], trunkOut := { reserved := 1, filled := [] },
    pending := [.readCounters 240 []] }

/-- What a step makes of it. -/
theorem witness_step : ∃ t, step lawful = .next t ∧ t.trunkOut.filled.length = 1 :=
  ⟨_, rfl, by decide⟩

theorem lawful_shape : lawful.ShapeLaw :=
  ⟨by decide, by decide, by decide, by decide, by decide, by decide, by decide, fun m h => (nomatch h),
    fun q h => (nomatch h)⟩

theorem mem_lawful_records {r : ActuatorRecord} (h : some r ∈ lawful.records) :
    r = recomputeRecord readyCoil.rules (readyCoil.heldLevels.set 5 2) 0 (.fresh 40 3) := by
  simpa [lawful, List.mem_replicate] using h

theorem mem_lawful_rules {q : OverrideRule} (h : some q ∈ lawful.rules) : q = rule6 := by
  simpa [lawful, readyCoil, rulesWith, withPointEntries, List.mem_replicate] using h

theorem mem_lawful_points {e : PointEntry} (h : some e ∈ lawful.points) :
    e = freshEntry facePoint 0 ∨ e = freshEntry { facePoint with channel := 1, role := .face 2 } 0 := by
  simpa [lawful, readyCoil, rulesWith, withPointEntries, List.mem_replicate] using h

theorem witness_KeysLawKeptByEveryStep : lawful.KeysLaw := by
  refine ⟨lawful_shape, ?_, ?_, ?_, ?_, ?_, ?_, fun m h => (nomatch h), fun q h => (nomatch h)⟩
  · show List.Nodup _; decide
  · show List.Nodup _; decide
  · intro e h
    rcases mem_lawful_points h with rfl | rfl <;> decide
  · show List.Nodup _; decide
  · show List.Nodup _; decide
  · intro key
    constructor
    · rintro ⟨r, h, rfl⟩
      exact ⟨rule6, by decide, by rw [mem_lawful_records h]; decide⟩
    · rintro ⟨q, h, rfl⟩
      rw [mem_lawful_rules h]
      exact ⟨_, by simp only [lawful]; exact .head _, by decide⟩

theorem witness_PlacesLawKeptByEveryStep : lawful.PlacesLaw :=
  ⟨by decide, by decide, by decide, by decide, fun h => (nomatch h), fun o h => (nomatch h)⟩

theorem witness_OverrideAndTripLineKeptByEveryStep :
    lawful.ShapeLaw ∧ lawful.OverrideLaw ∧ lawful.TripLineLaw := by
  refine ⟨lawful_shape, ⟨by decide, ?_⟩, ⟨by decide, by decide⟩⟩
  intro r h
  rw [mem_lawful_records h]
  decide

theorem runtimeLaw_of {k : Coil} (h : k.cause ∈ causesOf k.state ∧ k.evalTimer = (k.state != .offline) ∧
    (k.state = .offline → k.eval = .initial ∧ k.tripHistory = []) ∧ k.eval.dose ≤ 4 * k.cfg.tripDose ∧
    k.eval.ring.length ≤ 8 ∧ k.tripHistory.length ≤ 4 ∧ k.dwell ≤ 65535 ∧ k.unknown ≤ 65535 ∧
    k.autoResetTimer ≤ 3600) : k.RuntimeLaw :=
  ⟨h.1, h.2.1, h.2.2.1, h.2.2.2.1, h.2.2.2.2.1, h.2.2.2.2.2.1, h.2.2.2.2.2.2.1, h.2.2.2.2.2.2.2.1,
    h.2.2.2.2.2.2.2.2⟩

theorem witness_CoilsLawKeptByEveryStep : lawful.CoilsLaw := by
  have h : ∀ k ∈ lawful.coils, k.cause ∈ causesOf k.state ∧ k.evalTimer = (k.state != .offline) ∧
      (k.state = .offline → k.eval = .initial ∧ k.tripHistory = []) ∧ k.eval.dose ≤ 4 * k.cfg.tripDose ∧
      k.eval.ring.length ≤ 8 ∧ k.tripHistory.length ≤ 4 ∧ k.dwell ≤ 65535 ∧ k.unknown ≤ 65535 ∧
      k.autoResetTimer ≤ 3600 := by decide
  exact fun k hk => runtimeLaw_of (h k hk)

theorem defaultConfig_inRange : ConfigInRange defaultCoilConfig := by
  refine ⟨?_, ?_, ?_, ?_, ?_, ?_, ?_, ?_, ?_, ?_, ?_, ?_, ?_, ?_, fun x h => (nomatch h), ?_, ?_, ?_, ?_,
    fun x h => (nomatch h)⟩ <;> decide

theorem witness_RecordsLawKeptByEveryStep : lawful.RecordsLaw := by
  have hc : ∀ k ∈ lawful.coils, k.cfg = defaultCoilConfig := by decide
  refine ⟨⟨⟨by decide, by decide, by decide⟩, fun k hk => by rw [hc k hk]; exact defaultConfig_inRange, ?_, ?_,
    fun m h => (nomatch h), fun q h => (nomatch h), fun h => (nomatch h)⟩, ?_⟩
  · intro e h
    rcases mem_lawful_points h with rfl | rfl
    · exact ⟨by decide, by decide, fun i h => by cases h; decide, by decide, by decide, by decide⟩
    · exact ⟨by decide, by decide, fun i h => by cases h; decide, by decide, by decide, by decide⟩
  · intro r h
    rw [mem_lawful_rules h]
    exact ⟨by decide, by decide, by decide, by decide⟩
  · intro r h
    rw [mem_lawful_records h]
    refine ⟨by decide, by decide, fun k h => ?_, fun v h => (nomatch h), fun t h => (nomatch h),
      fun h => (nomatch h), by decide⟩
    have h' : some k = some (Constraint.mk 600 1000 false true 45 true) := h.symm.trans (by decide)
    cases h'
    decide

end Sys2Proof.Tests
end

section
/-! What an event can do to the tables of the part, said once (chapters 1 to 5 and 11). `Runs` is what every
event but a load, a COMMIT and a power-on does: configuration stays and runtimes move within their laws.
`TableChange` adds those others, one constructor each. Every step is a chain of such changes. -/

namespace Sys2Proof.Machine

/-! ### Running without a load -/

/-- The two states hold the same tables, image and write in flight, and lists of the same sizes beside. -/
structure SameTables (s t : State) : Prop where
  relaySet : t.relaySet = s.relaySet
  coils : t.coils = s.coils
  points : t.points = s.points
  rules : t.rules = s.rules
  records : t.records = s.records
  store : t.store = s.store
  commit : t.commit = s.commit
  heldLevels : t.heldLevels.length = s.heldLevels.length
  inputs : t.contacts.inputs.length = s.contacts.inputs.length
  noticeCoils : t.notice.coils.length = s.notice.coils.length

/-- The rules of a table are in range (R11). -/
def rulesInRange (rules : List (Option OverrideRule)) : Prop := ∀ q, some q ∈ rules → RuleInRange q

/-- A table of actuator records moves to another: no key changes, and the law of records is kept. -/
structure RecordTableMoves (rules : List (Option OverrideRule)) (xs ys : List (Option ActuatorRecord)) :
    Prop where
  keys : ys.map (Option.map recordKey) = xs.map (Option.map recordKey)
  law : rulesInRange rules → (∀ r, some r ∈ xs → r.Law) → ∀ r, some r ∈ ys → r.Law

/-- A coil record moves to another: its runtime law and the ranges of its configuration are kept. -/
structure CoilMoves (k k' : Coil) : Prop where
  runtime : k.RuntimeLaw → k'.RuntimeLaw
  config : ConfigInRange k.cfg → ConfigInRange k'.cfg

/-- What an event does that loads no point, rule or relay set and touches no image: points keep their
configuration, coils and records move within their laws, and the rest of the tables stays. -/
structure Runs (s t : State) : Prop where
  relaySet : t.relaySet = s.relaySet
  rules : t.rules = s.rules
  store : t.store = s.store
  commit : t.commit = s.commit
  heldLevels : s.heldLevels.length = s.coils.length → t.heldLevels.length = s.heldLevels.length
  inputs : t.contacts.inputs.length = s.contacts.inputs.length
  noticeCoils : t.notice.coils.length = s.notice.coils.length
  points : t.points.map (Option.map PointEntry.cfg) = s.points.map (Option.map PointEntry.cfg)
  records : RecordTableMoves s.rules s.records t.records
  coilCount : t.coils.length = s.coils.length
  runtimes : s.CoilsLaw → t.CoilsLaw
  configs : (∀ k ∈ s.coils, ConfigInRange k.cfg) → ∀ k ∈ t.coils, ConfigInRange k.cfg

theorem RecordTableMoves.refl (rules : List (Option OverrideRule)) (xs : List (Option ActuatorRecord)) :
    RecordTableMoves rules xs xs := ⟨rfl, fun _ h => h⟩

theorem RecordTableMoves.trans {rules : List (Option OverrideRule)} {xs ys zs : List (Option ActuatorRecord)}
    (h : RecordTableMoves rules xs ys) (h' : RecordTableMoves rules ys zs) : RecordTableMoves rules xs zs :=
  ⟨h'.keys.trans h.keys, fun hr hx => h'.law hr (h.law hr hx)⟩

theorem SameTables.runs {s t : State} (h : SameTables s t) : Runs s t where
  relaySet := h.relaySet
  rules := h.rules
  store := h.store
  commit := h.commit
  heldLevels := fun _ => h.heldLevels
  inputs := h.inputs
  noticeCoils := h.noticeCoils
  points := by rw [h.points]
  records := by rw [h.records]; exact RecordTableMoves.refl _ _
  coilCount := by rw [h.coils]
  runtimes := fun hs => by unfold State.CoilsLaw; rw [h.coils]; exact hs
  configs := fun hs => by rw [h.coils]; exact hs

theorem Runs.refl (s : State) : Runs s s := SameTables.runs (by constructor <;> rfl)

theorem Runs.trans {s t u : State} (h : Runs s t) (h' : Runs t u) : Runs s u where
  relaySet := h'.relaySet.trans h.relaySet
  rules := h'.rules.trans h.rules
  store := h'.store.trans h.store
  commit := h'.commit.trans h.commit
  heldLevels := fun hs =>
    (h'.heldLevels ((h.heldLevels hs).trans (hs.trans h.coilCount.symm))).trans (h.heldLevels hs)
  inputs := h'.inputs.trans h.inputs
  noticeCoils := h'.noticeCoils.trans h.noticeCoils
  points := h'.points.trans h.points
  records := h.records.trans (h.rules ▸ h'.records)
  coilCount := h'.coilCount.trans h.coilCount
  runtimes := fun hs => h'.runtimes (h.runtimes hs)
  configs := fun hs => h'.configs (h.configs hs)

theorem Runs.foldl {α : Type} (f : State → α → State) (h : ∀ s a, Runs s (f s a)) (xs : List α)
    (s : State) : Runs s (xs.foldl f s) := by
  induction xs generalizing s with
  | nil => exact Runs.refl s
  | cons a xs ih => exact (h s a).trans (ih _)

variable (s : State)

theorem Runs.withPoints {ps : List (Option PointEntry)}
    (h : ps.map (Option.map PointEntry.cfg) = s.points.map (Option.map PointEntry.cfg)) :
    Runs s (s.withPoints ps) :=
  { Runs.refl s with points := h }

theorem Runs.withRecords {rs : List (Option ActuatorRecord)} (h : RecordTableMoves s.rules s.records rs) :
    Runs s (s.withRecords rs) :=
  { Runs.refl s with records := h }

/-! ### Coil records -/

theorem powerOnCoil_law (k : CoilConfig) (enabled : Bool) : (Coil.atPowerOn k enabled).RuntimeLaw := by
  constructor <;> simp [Coil.atPowerOn, causesOf, EvalRuntime.initial]

theorem defaultConfig_inRange : ConfigInRange defaultCoilConfig := by
  constructor <;> simp [defaultCoilConfig]

/-- The record of a coil is a member of the table, or the default that no lawful state reads. -/
theorem State.coil_mem_or (c : CoilId) :
    s.coil c ∈ s.coils ∨ s.coil c = Coil.atPowerOn defaultCoilConfig false := by
  unfold State.coil
  rw [List.getD_eq_getElem?_getD]
  cases h : s.coils[c.val]? with
  | none => exact Or.inr rfl
  | some k => exact Or.inl (List.mem_of_getElem? h)

theorem State.CoilsLaw.coil {s : State} (h : s.CoilsLaw) (c : CoilId) : (s.coil c).RuntimeLaw := by
  rcases s.coil_mem_or c with hm | he
  · exact h _ hm
  · rw [he]; exact powerOnCoil_law _ _

theorem coil_inRange {s : State} (h : ∀ k ∈ s.coils, ConfigInRange k.cfg) (c : CoilId) :
    ConfigInRange (s.coil c).cfg := by
  rcases s.coil_mem_or c with hm | he
  · exact h _ hm
  · rw [he]; exact defaultConfig_inRange

theorem Runs.setCoil {c : CoilId} {k : Coil} (h : CoilMoves (s.coil c) k) : Runs s (s.setCoil c k) :=
  { Runs.refl s with
    coilCount := by simp [State.setCoil, State.withCoils]
    runtimes := fun hs k' hk' => by
      rcases List.mem_or_eq_of_mem_set hk' with hm | rfl
      · exact hs _ hm
      · exact h.runtime (hs.coil c)
    configs := fun hs k' hk' => by
      rcases List.mem_or_eq_of_mem_set hk' with hm | rfl
      · exact hs _ hm
      · exact h.config (coil_inRange hs c) }

theorem State.coil_lt_of_state {c : CoilId} (h : (s.coil c).state ≠ .offline) : c.val < s.coils.length := by
  by_contra hn
  apply h
  unfold State.coil
  rw [List.getD_eq_getElem?_getD, List.getElem?_eq_none (by omega)]
  rfl

theorem State.setCoil_coil (c : CoilId) : s.setCoil c (s.coil c) = s := by
  unfold State.setCoil State.withCoils State.coil
  congr 1
  rw [List.getD_eq_getElem?_getD]
  by_cases h : c.val < s.coils.length
  · simp [h]
  · rw [List.set_eq_of_length_le (by omega)]

/-- A coil record as a change of state leaves it (R60). -/
def Coil.entering (k : Coil) (new : CoilState) (cause : Option Cause) (clock : Nat) : Coil :=
  { k with state := new, cause := cause, entryTime := clock, dwell := 0 }

theorem State.storeState_setCoil (c : CoilId) (k : Coil) (new : CoilState) (cause : Option Cause) :
    (s.setCoil c k).storeState c new cause = s.setCoil c (k.entering new cause s.plantClock) := by
  unfold State.storeState
  rw [State.setCoil_setCoil]
  by_cases h : c.val < s.coils.length
  · rw [s.coil_setCoil c k h]; rfl
  · simp [State.setCoil, State.withCoils, List.set_eq_of_length_le (Nat.le_of_not_lt h)]

/-! ### Actuator records -/

/-- An actuator record moves to another: its key stays and its law is kept. -/
structure RecordMoves (rules : List (Option OverrideRule)) (r r' : ActuatorRecord) : Prop where
  key : recordKey r' = recordKey r
  law : rulesInRange rules → r.Law → r'.Law

theorem RecordTableMoves.map {rules : List (Option OverrideRule)} {xs : List (Option ActuatorRecord)}
    {f : ActuatorRecord → ActuatorRecord} (h : ∀ r, RecordMoves rules r (f r)) :
    RecordTableMoves rules xs (xs.map (Option.map f)) where
  keys := by
    rw [List.map_map]
    exact List.map_congr_left (fun o _ => by cases o <;> simp [(h _).key])
  law := fun hr hx r' hm => by
    obtain ⟨o, ho, he⟩ := List.mem_map.mp hm
    obtain ⟨r, rfl, rfl⟩ := Option.map_eq_some_iff.mp he
    exact (h r).law hr (hx r ho)

theorem RecordTableMoves.set {rules : List (Option OverrideRule)} {xs : List (Option ActuatorRecord)} {i : Nat}
    {r r' : ActuatorRecord} (hi : xs[i]? = some (some r)) (h : RecordMoves rules r r') :
    RecordTableMoves rules xs (xs.set i (some r')) where
  keys := by
    obtain ⟨hlt, hv⟩ := List.getElem?_eq_some_iff.mp hi
    rw [List.map_set]
    have : (xs.map (Option.map recordKey))[i]'(by simpa using hlt) = Option.map recordKey (some r') := by
      simp [hv, h.key]
    rw [← this, List.set_getElem_self]
  law := fun hr hx q hm => by
    rcases List.mem_or_eq_of_mem_set hm with hm | he
    · exact hx q hm
    · cases he
      exact h.law hr (hx r (List.mem_of_getElem? hi))

theorem RecordMoves.refl (rules : List (Option OverrideRule)) (r : ActuatorRecord) :
    RecordMoves rules r r := ⟨rfl, fun _ h => h⟩

theorem RecordMoves.ite {rules : List (Option OverrideRule)} {r r' : ActuatorRecord} (b : Bool)
    (h : RecordMoves rules r r') : RecordMoves rules r (if b then r' else r) := by
  cases b
  · exact RecordMoves.refl rules r
  · exact h

theorem RecordTableMoves.updateRecords {rules : List (Option OverrideRule)} {xs : List (Option ActuatorRecord)}
    {station channel : Nat} {f : ActuatorRecord → ActuatorRecord} (h : ∀ r, RecordMoves rules r (f r)) :
    RecordTableMoves rules xs (updateRecords xs station channel f) :=
  RecordTableMoves.map (fun r => RecordMoves.ite _ (h r))

theorem foldl_between {f : Int → Int → Int} {lo hi : Int}
    (hf : ∀ a b, lo ≤ a ∧ a ≤ hi → lo ≤ b ∧ b ≤ hi → lo ≤ f a b ∧ f a b ≤ hi) (xs : List Int)
    (hx : ∀ x ∈ xs, lo ≤ x ∧ x ≤ hi) (a : Int) (ha : lo ≤ a ∧ a ≤ hi) :
    lo ≤ xs.foldl f a ∧ xs.foldl f a ≤ hi := by
  induction xs generalizing a with
  | nil => exact ha
  | cons x xs ih =>
    exact ih (fun y hy => hx y (List.mem_cons_of_mem _ hy)) _ (hf a x ha (hx x (List.mem_cons_self ..)))

/-- The bounds that rules in range give lie in 0 to 1000 (R83). -/
theorem constraintOf_bounds {active : List OverrideRule} {k : Constraint}
    (h : ∀ q ∈ active, 0 ≤ q.value ∧ q.value ≤ 1000) (hk : constraintOf active = some k) :
    0 ≤ k.lo ∧ k.lo ≤ 1000 ∧ 0 ≤ k.hi ∧ k.hi ≤ 1000 := by
  have hv (p : OverrideRule → Bool) : ∀ x ∈ (active.filter p).map OverrideRule.value, 0 ≤ x ∧ x ≤ 1000 := by
    intro x hx
    obtain ⟨q, hq, rfl⟩ := List.mem_map.mp hx
    exact h q (List.mem_of_mem_filter hq)
  have hlo := foldl_between (f := max) (by intros; omega) _ (hv isFloor) 0 (by omega)
  have hhi := foldl_between (f := min) (by intros; omega) _ (hv isCeiling) 1000 (by omega)
  unfold constraintOf at hk
  cases active with
  | nil => cases hk
  | cons q rest =>
    cases hk
    exact ⟨hlo.1, hlo.2, hhi.1, hhi.2⟩

theorem activeRules_inRange {rules : List (Option OverrideRule)} (h : rulesInRange rules)
    (levels : List Nat) (station channel : Nat) :
    ∀ q ∈ activeRules rules levels station channel, 0 ≤ q.value ∧ q.value ≤ 1000 := by
  intro q hq
  have hm := List.mem_of_mem_filter hq
  simp only [List.mem_filterMap, id] at hm
  obtain ⟨o, ho, rfl⟩ := hm
  exact (h q ho).value

theorem needUnder_cases (k : Constraint) (r : ActuatorRecord) (clock : Nat) :
    needUnder k r clock = .none ∨ ∃ t, needUnder k r clock = .protect t := by
  unfold needUnder Need.toProtect
  split
  · exact Or.inl rfl
  · split <;> exact Or.inr ⟨_, rfl⟩

theorem recomputeRecord_moves (rules : List (Option OverrideRule)) (levels : List Nat) (clock : Nat)
    (r : ActuatorRecord) : RecordMoves rules r (recomputeRecord rules levels clock r) := by
  unfold recomputeRecord
  cases hk : constraintOf (activeRules rules levels r.station r.channel) with
  | some k =>
    refine ⟨rfl, fun hr h => ⟨h.station, h.channel, ?_, h.command, ?_, ?_, rfl⟩⟩
    · rintro k' ⟨⟩
      exact constraintOf_bounds (activeRules_inRange hr levels r.station r.channel) hk
    · rintro t (ht : needUnder k r clock = .restore t)
      rcases needUnder_cases k r clock with hn | ⟨u, hn⟩ <;> simp [hn] at ht
    · rintro ⟨⟩
  | none =>
    refine ⟨rfl, fun _ h => ⟨h.station, h.channel, ?_, h.command, ?_, ?_, rfl⟩⟩
    · rintro k' ⟨⟩
    · rintro t (ht : needReleased r clock = .restore t)
      refine ⟨rfl, ?_⟩
      unfold needReleased at ht
      split at ht
      · exact (h.restore t ht).2
      · split at ht
        · rename_i hc; exact hc.2.1
        · cases ht
    · rintro -
      show needReleased r clock = .none ∨ ∃ t, needReleased r clock = .restore t
      unfold needReleased
      split
      · rename_i hc; exact h.unbound hc
      · split
        · exact Or.inr ⟨_, rfl⟩
        · exact Or.inl rfl

theorem capture_moves (rules : List (Option OverrideRule)) (r : ActuatorRecord) (v : Int) :
    RecordMoves rules r (r.capture v) := by
  refine ⟨rfl, fun _ h => ⟨h.station, h.channel, h.bounds, ?_, fun t ht => ⟨(h.restore t ht).1, rfl⟩,
    h.unbound, h.refresh⟩⟩
  rintro _ ⟨⟩
  rw [clampInt_eq (by omega)]
  omega

theorem afterOwnSet_moves (rules : List (Option OverrideRule)) (r : ActuatorRecord) :
    RecordMoves rules r r.afterOwnSet :=
  ⟨rfl, fun _ h => ⟨h.station, h.channel, h.bounds, h.command, h.restore, h.unbound, h.refresh⟩⟩

theorem miss_moves (rules : List (Option OverrideRule)) (r : ActuatorRecord) (clock : Nat) :
    RecordMoves rules r (r.miss clock) :=
  ⟨rfl, fun _ h => ⟨h.station, h.channel, h.bounds, h.command, h.restore, h.unbound, h.refresh⟩⟩

theorem reinitialised_moves (rules : List (Option OverrideRule)) (r : ActuatorRecord) :
    RecordMoves rules r r.reinitialised := by
  refine ⟨rfl, fun _ h => ⟨h.station, h.channel, ?_, h.command, ?_, fun _ => Or.inl rfl, rfl⟩⟩
  · rintro k ⟨⟩
  · rintro t ⟨⟩

theorem needAfterEcho_cases (r : ActuatorRecord) (v : Int) :
    needAfterEcho r v = .none ∨ needAfterEcho r v = r.need := by
  unfold needAfterEcho
  cases hn : r.need with
  | restore t => by_cases h : r.cmdLast = some v <;> simp [h]
  | _ => exact Or.inr rfl

theorem takeEcho_moves (rules : List (Option OverrideRule)) (r : ActuatorRecord) (clock : Nat) (v : Int) :
    RecordMoves rules r (r.takeEcho clock v) := by
  refine ⟨rfl, fun _ h => ⟨h.station, h.channel, h.bounds, h.command, ?_, ?_, h.refresh⟩⟩
  · intro t ht
    unfold ActuatorRecord.takeEcho at ht
    dsimp only at ht
    cases hc : r.constraint with
    | some k =>
      simp only [hc] at ht
      rcases needUnder_cases k _ clock with hn | ⟨u, hn⟩ <;> rw [hn] at ht <;> cases ht
    | none =>
      simp only [hc] at ht
      rcases needAfterEcho_cases _ v with hn | hn <;> rw [hn] at ht
      · cases ht
      · exact h.restore t ht
  · intro (hc : r.constraint = none)
    unfold ActuatorRecord.takeEcho
    dsimp only
    simp only [hc]
    rcases needAfterEcho_cases _ v with hn | hn <;> rw [hn]
    · exact Or.inl rfl
    · exact h.unbound hc

theorem refreshExpiry_moves (rules : List (Option OverrideRule)) (r : ActuatorRecord) (clock : Nat)
    (hr : r.refreshTimer.isSome = true) :
    RecordMoves rules r { r with need := needAfterRefresh r.need clock } := by
  refine ⟨rfl, fun _ h => ⟨h.station, h.channel, h.bounds, h.command, fun t ht => ?_, fun hc => ?_,
    h.refresh⟩⟩
  · apply h.restore t
    have ht : needAfterRefresh r.need clock = .restore t := ht
    unfold needAfterRefresh at ht
    split at ht
    · cases ht
    · exact ht
  · have hc : r.constraint = none := hc
    have := h.refresh
    rw [hr, hc] at this
    cases this

theorem Runs.recomputeWhere (named : ActuatorRecord → Bool) : Runs s (s.recomputeWhere named) :=
  Runs.withRecords s (RecordTableMoves.map (fun r => RecordMoves.ite _ (recomputeRecord_moves _ _ _ r)))

end Sys2Proof.Machine
end

section
/-! What the operations of coil protection and of the contact block do to the tables: they run. -/

namespace Sys2Proof.Machine

variable (s : State)

/-! ### The contact and trip-line block (chapter 6) -/

theorem Runs.withContacts {b : ContactBlock} (h : b.inputs.length = s.contacts.inputs.length) :
    Runs s (s.withContacts b) :=
  { Runs.refl s with inputs := h }

theorem Runs.withNotice {n : Notice} (h : n.coils.length = s.notice.coils.length) :
    Runs s (s.withNotice n) :=
  { Runs.refl s with noticeCoils := h }

theorem Runs.raiseCoil (c : CoilId) : Runs s (s.raiseCoil c) := Runs.withNotice s (List.length_set ..)

theorem driveAfter_inputs (b : ContactBlock) (period : Nat) (want : Bool) :
    (b.driveAfter period want).inputs = b.inputs :=
  (ContactBlock.driveAfter_inputs b period want).1

theorem Runs.deriveTripOutput : Runs s s.deriveTripOutput := by
  rw [State.deriveTripOutput_eq]
  exact { Runs.refl s with inputs := congrArg List.length (driveAfter_inputs ..) }

theorem Runs.changeSense (high : Bool) : Runs s (s.changeSense high) := by
  unfold State.changeSense
  dsimp only
  split
  · exact Runs.withContacts s rfl
  · split <;> exact SameTables.runs (by constructor <;> rfl)

theorem Runs.expireRelease : Runs s s.expireRelease := by
  unfold State.expireRelease
  split
  · exact SameTables.runs (by constructor <;> rfl)
  · exact Runs.refl s

/-! ### Changes of a coil's state (R60, R65, R68) -/

theorem Runs.reportEntry (c : CoilId) (new : CoilState) : Runs s (s.reportEntry c new) := by
  rw [State.reportEntry_eq]
  exact Runs.withNotice s (by simp)

theorem Runs.handLevelFrom (c : CoilId) (old new : Nat) : Runs s (s.handLevelFrom c old new) := by
  unfold State.handLevelFrom
  split
  · exact Runs.refl s
  · exact Runs.trans (t := s.withHeldLevels (s.heldLevels.set c.val new))
      { Runs.refl s with heldLevels := fun _ => List.length_set .. } (Runs.recomputeWhere _ _)

/-- A coil whose record has been made `k` enters a state: it runs when the record so entered is lawful. -/
theorem Runs.enterState_setCoil {c : CoilId} {k : Coil} {new : CoilState} {cause : Option Cause}
    (h : CoilMoves (s.coil c) (k.entering new cause s.plantClock)) :
    Runs s ((s.setCoil c k).enterState c new cause) := by
  unfold State.enterState
  rw [State.storeState_setCoil]
  exact (Runs.setCoil s h).trans
    ((Runs.handLevelFrom _ _ _ _).trans ((Runs.deriveTripOutput _).trans (Runs.reportEntry _ _ _)))

/-- The runtime law of a coil that enters a state in service (R39, R58). -/
theorem Coil.entering_law {k : Coil} {new : CoilState} {cause : Option Cause} (clock : Nat)
    (hn : new ≠ .offline) (hc : cause ∈ causesOf new) (ht : k.evalTimer = true)
    (hd : k.eval.dose ≤ 4 * k.cfg.tripDose) (hr : k.eval.ring.length ≤ 8) (hh : k.tripHistory.length ≤ 4)
    (hu : k.unknown ≤ 65535) (ha : k.autoResetTimer ≤ 3600) :
    (k.entering new cause clock).RuntimeLaw where
  cause := hc
  timer := by simp [Coil.entering, ht, hn]
  outOfService h := absurd h hn
  dose := hd
  ring := hr
  history := hh
  dwell := Nat.zero_le _
  unknown := hu
  autoReset := ha

theorem Coil.RuntimeLaw.evalTimer {k : Coil} (h : k.RuntimeLaw) (hs : k.state ≠ .offline) :
    k.evalTimer = true := by
  rw [h.timer]; simp [hs]

/-- A coil in service moves to another state in service. -/
theorem Runs.enterState {c : CoilId} {new : CoilState} {cause : Option Cause}
    (hs : (s.coil c).state ≠ .offline) (hn : new ≠ .offline) (hc : cause ∈ causesOf new) :
    Runs s (s.enterState c new cause) := by
  conv => rhs; rw [← s.setCoil_coil c]
  exact Runs.enterState_setCoil s ⟨fun h => Coil.entering_law _ hn hc (h.evalTimer hs) h.dose h.ring
    h.history h.unknown h.autoReset, fun h => h⟩

theorem appendTrip_length {history : List Nat} (t : Nat) (h : history.length ≤ 4) :
    (appendTrip history t).length ≤ 4 := by
  rw [appendTrip_eq]
  simp only [List.length_drop, List.length_append, List.length_singleton]
  omega

/-- The causes of a trip (R65). -/
def tripCauses : List Cause := [.dose, .hard, .contact, .blind]

theorem Runs.tripCoil {c : CoilId} {cause : Cause} (hs : (s.coil c).state ≠ .offline)
    (hc : cause ∈ tripCauses) : Runs s (s.tripCoil c cause) := by
  have hm : some cause ∈ causesOf .trip ∧ some cause ∈ causesOf .lockout := by
    simpa [causesOf, tripCauses] using hc
  have tripped {new : CoilState} (hn : new ≠ .offline) (hc : some cause ∈ causesOf new) :
      Runs s ((s.setCoil c { s.coil c with
        tripHistory := appendTrip (s.coil c).tripHistory s.plantClock, autoResetTimer := 0 }).enterState
          c new (some cause)) :=
    Runs.enterState_setCoil s ⟨fun h => Coil.entering_law _ hn hc (h.evalTimer hs) h.dose h.ring
      (appendTrip_length _ h.history) h.unknown (Nat.zero_le _), fun h => h⟩
  unfold State.tripCoil
  dsimp only
  split
  · exact tripped (by simp) hm.2
  · exact tripped (by simp) hm.1

theorem Runs.enterStartup (c : CoilId) : Runs s (s.enterStartup c) :=
  Runs.enterState_setCoil s ⟨fun h => Coil.entering_law _ (by simp) (by simp [causesOf]) rfl
    (Nat.zero_le _) (Nat.zero_le _) h.history (Nat.zero_le _) (Nat.zero_le _), fun h => h⟩

theorem Runs.resetToGuard {c : CoilId} (hs : (s.coil c).state ≠ .offline) : Runs s (s.resetToGuard c) := by
  unfold State.resetToGuard
  exact Runs.enterState_setCoil s ⟨fun h => Coil.entering_law _ (by simp) (by simp [causesOf])
    (h.evalTimer hs) (Nat.zero_le _) h.ring h.history h.unknown (Nat.zero_le _), fun h => h⟩

theorem Runs.changeCause {c : CoilId} {cause : Cause} (hc : some cause ∈ causesOf (s.coil c).state) :
    Runs s (s.changeCause c cause) := by
  unfold State.changeCause
  dsimp only
  split
  · exact Runs.refl s
  · exact (Runs.setCoil s (k := { s.coil c with cause := some cause })
      ⟨fun h => { h with cause := hc }, fun h => h⟩).trans (Runs.raiseCoil _ c)

theorem Runs.setAutoReset (c : CoilId) {timer : Nat} (h : timer ≤ 3600) :
    Runs s (s.setCoil c { s.coil c with autoResetTimer := timer }) :=
  Runs.setCoil s ⟨fun hk => { hk with autoReset := h }, fun hk => hk⟩

/-! ### The state machine (R61 to R74) -/

theorem guardCondition_cause {b : ContactBlock} {k : CoilConfig} {e : EvalRuntime} {kc : CoilConfig}
    {cause : Cause} (h : guardCondition b k (indicationOf kc e) = some cause) :
    some cause ∈ causesOf .guard := by
  unfold guardCondition indicationOf at h
  dsimp only at h
  by_cases h1 : e.sensingLost = true
  · simp [h1] at h; simp [← h, causesOf]
  · by_cases h2 : mpBelow e kc.guardBand = true
    · simp [h1, h2] at h; simp [← h, causesOf]
    · by_cases h3 : 0 < e.dose
      · simp [h1, h2, h3] at h; simp [← h, causesOf]
      · simp [h1, h2, h3] at h; simp [← h.2, causesOf]

theorem watchCondition_cause {k : Coil} {ind : Indication} {cause : Cause}
    (h : watchCondition k ind = some cause) : some cause ∈ causesOf .watch := by
  unfold watchCondition at h
  split at h
  · cases h; simp [causesOf]
  · split at h
    · cases h; simp [causesOf]
    · cases h

theorem watchCauseAfterGuard_cause (k : Coil) (ind : Indication) :
    some (watchCauseAfterGuard k ind) ∈ causesOf .watch := by
  unfold watchCauseAfterGuard
  split
  · simp [causesOf]
  · split <;> simp [causesOf]

theorem tripCause_cause {k : Coil} {ind : Indication} {cause : Cause}
    (h : s.tripCause k ind = some cause) : cause ∈ tripCauses := by
  unfold State.tripCause at h
  split at h
  · cases h; simp [tripCauses]
  · cases h; simp [tripCauses]
  · split at h
    · cases h; simp [tripCauses]
    · split at h
      · cases h; simp [tripCauses]
      · cases h

section
variable {s} {c : CoilId} (kc : CoilConfig) (e : EvalRuntime)

theorem Runs.actInStartup (hs : (s.coil c).state = .startup) :
    Runs s (s.actInStartup c (indicationOf kc e)) := by
  have hs : (s.coil c).state ≠ .offline := by simp [hs]
  unfold State.actInStartup
  dsimp only
  split
  · split
    · rename_i h
      exact Runs.enterState s hs (by simp) (guardCondition_cause h)
    · split
      · rename_i h
        exact Runs.enterState s hs (by simp) (watchCondition_cause h)
      · exact Runs.enterState s hs (by simp) (by simp [causesOf])
  · exact Runs.refl s

theorem Runs.actInNormal (hs : (s.coil c).state = .normal) :
    Runs s (s.actInNormal c (indicationOf kc e)) := by
  have hs : (s.coil c).state ≠ .offline := by simp [hs]
  unfold State.actInNormal
  dsimp only
  split
  · rename_i h
    exact Runs.enterState s hs (by simp) (guardCondition_cause h)
  · split
    · rename_i h
      exact Runs.enterState s hs (by simp) (watchCondition_cause h)
    · exact Runs.refl s

theorem Runs.actInWatch (hs : (s.coil c).state = .watch) :
    Runs s (s.actInWatch c (indicationOf kc e)) := by
  have hn : (s.coil c).state ≠ .offline := by simp [hs]
  unfold State.actInWatch
  dsimp only
  split
  · rename_i h
    exact Runs.enterState s hn (by simp) (guardCondition_cause h)
  · split
    · exact Runs.enterState s hn (by simp) (by simp [causesOf])
    · split
      · rename_i h
        exact Runs.changeCause s (hs ▸ watchCondition_cause h)
      · exact Runs.refl s

theorem Runs.actInGuard (hs : (s.coil c).state = .guard) :
    Runs s (s.actInGuard c (indicationOf kc e)) := by
  have hn : (s.coil c).state ≠ .offline := by simp [hs]
  unfold State.actInGuard
  dsimp only
  split
  · rename_i h
    exact Runs.changeCause s (hs ▸ guardCondition_cause h)
  · split
    · exact Runs.enterState s hn (by simp) (watchCauseAfterGuard_cause _ _)
    · exact Runs.refl s

theorem autoResetAfter_le (b : ContactBlock) (k : Coil) : autoResetAfter b k ≤ 3600 := by
  unfold autoResetAfter
  split <;> omega

theorem Runs.actInTrip (hs : (s.coil c).state ≠ .offline) : Runs s (s.actInTrip c) := by
  unfold State.actInTrip
  split
  · exact Runs.setAutoReset s c (Nat.zero_le _)
  · unfold State.autoResetStep
    split
    · exact Runs.resetToGuard s hs
    · exact Runs.setAutoReset s c (autoResetAfter_le _ _)

theorem Runs.actUnlatched {rule : State → CoilId → Indication → State} (ind : Indication)
    (hs : (s.coil c).state ≠ .offline) (h : Runs s (rule s c ind)) : Runs s (s.actUnlatched c ind rule) := by
  unfold State.actUnlatched
  split
  · rename_i hc
    exact Runs.tripCoil s hs (tripCause_cause s hc)
  · exact h

end

/-! ### The evaluation (R40) -/

theorem ringAfter_length {ring : List Int} (tf : Option Int) (h : ring.length ≤ 8) :
    (ringAfter ring tf).length ≤ 8 := by
  cases tf with
  | none => exact Nat.zero_le _
  | some v =>
    rw [ringAfter_eq]
    simp only [List.length_drop, List.length_append, List.length_singleton]
    omega

theorem doseAfter_le {k : CoilConfig} {dose : Nat} (mp : Option Int) (h : dose ≤ 4 * k.tripDose) :
    doseAfter k dose mp ≤ 4 * k.tripDose := by
  unfold doseAfter
  split
  · exact h
  · split <;> omega

theorem State.coil_lt_of_evalTimer {c : CoilId} (h : (s.coil c).evalTimer = true) :
    c.val < s.coils.length := by
  by_contra hn
  unfold State.coil at h
  rw [List.getD_eq_getElem?_getD, List.getElem?_eq_none (by omega)] at h
  cases h

/-- The results stored and the timers advanced: a coil whose evaluation timer runs stays lawful (R18, R39,
R50, R61). -/
theorem advanced_moves (cold : Bool) (values : List Int) (water : Option PointEntry) {k : Coil}
    (ht : k.evalTimer = true) :
    CoilMoves k (advanceTimers cold { k with eval := evaluated k.cfg values water k.eval }) := by
  refine ⟨fun h => ?_, fun h => h⟩
  have hs : k.state ≠ .offline := fun ho => by simpa [ht, ho] using h.timer
  exact { cause := h.cause, timer := h.timer, outOfService := fun ho => absurd ho hs
          dose := doseAfter_le _ h.dose, ring := ringAfter_length _ h.ring, history := h.history
          dwell := by simp only [advanceTimers]; omega
          unknown := by simp only [advanceTimers]; split <;> omega
          autoReset := h.autoReset }

/-- The evaluation of a coil whose evaluation timer runs. -/
theorem Runs.evaluateCoil {c : CoilId} (ht : (s.coil c).evalTimer = true) : Runs s (s.evaluateCoil c) := by
  have hlt := s.coil_lt_of_evalTimer ht
  unfold State.evaluateCoil State.takeIndication
  dsimp only
  rw [s.coil_setCoil c _ hlt, State.setCoil_setCoil]
  generalize State.coldWeatherFor _ _ = cold
  have hm := Runs.setCoil s (advanced_moves cold (s.faceValues c) (s.waterEntry c) ht)
  change Runs s (s.setCoil c (advanceTimers cold { s.coil c with eval := s.evaluatedCoil c })) at hm
  have hstate : ((s.setCoil c (advanceTimers cold { s.coil c with eval := s.evaluatedCoil c })).coil c).state
      = (s.coil c).state := by rw [s.coil_setCoil c _ hlt]; rfl
  refine hm.trans ?_
  generalize s.setCoil c (advanceTimers cold { s.coil c with eval := s.evaluatedCoil c }) = u at hstate ⊢
  split <;> rename_i hk <;> rw [hk] at hstate
  · exact Runs.refl u
  · exact Runs.actUnlatched _ (by simp [hstate]) (Runs.actInStartup _ _ hstate)
  · exact Runs.actUnlatched _ (by simp [hstate]) (Runs.actInNormal _ _ hstate)
  · exact Runs.actUnlatched _ (by simp [hstate]) (Runs.actInWatch _ _ hstate)
  · exact Runs.actUnlatched _ (by simp [hstate]) (Runs.actInGuard _ _ hstate)
  · exact Runs.actInTrip (by simp [hstate])
  · exact Runs.setAutoReset u c (Nat.zero_le _)

end Sys2Proof.Machine
end

section
/-! What every command does to the tables: a chain of table changes (`step_reaches`). -/

namespace Sys2Proof.Machine

variable (s : State)

/-! ### Contacts (chapter 6) -/

theorem Runs.takeContactChange (i : Fin 16) (c : CoilId) : Runs s (s.takeContactChange i c) := by
  have trips (h : (s.coil c).state ≠ .offline) : Runs s (s.tripCoil c .contact) :=
    Runs.tripCoil s h (by simp [tripCauses])
  unfold State.takeContactChange
  dsimp only
  split
  · split <;> rename_i hk
    case h_1 => exact Runs.refl s
    case h_6 => exact Runs.setAutoReset s c (Nat.zero_le _)
    case h_7 => exact Runs.refl s
    all_goals exact trips (by simp [hk])
  · exact Runs.refl s

theorem Runs.raiseContactChange : Runs s s.raiseContactChange := Runs.withNotice s rfl

theorem Runs.raisePortRestart : Runs s s.raisePortRestart := Runs.withNotice s rfl

theorem Runs.raiseActuatorLost : Runs s s.raiseActuatorLost := Runs.withNotice s rfl

theorem Runs.countModeration : Runs s s.countModeration := Runs.withNotice s rfl

theorem Runs.handContactChange (i : Fin 16) : Runs s (s.handContactChange i) := by
  unfold State.handContactChange
  exact (Runs.foldl _ (fun u c => Runs.takeContactChange u i c) coilIds s).trans
    ((Runs.raiseContactChange _).trans (Runs.deriveTripOutput _))

theorem Runs.handTick (before : ContactBlock) (high : Bool) : Runs s (s.handTick before high) := by
  have hsense : Runs s (s.handSense before high) := by
    unfold State.handSense
    split
    · exact Runs.changeSense s high
    · exact Runs.refl s
  have hsettle (u : State) : Runs u (u.handSettling before) := by
    unfold State.handSettling
    split
    · exact Runs.refl u
    · exact Runs.deriveTripOutput u
  have hrelease (u : State) : Runs u (u.handRelease before) := by
    unfold State.handRelease
    split
    · exact Runs.expireRelease u
    · exact Runs.refl u
  unfold State.handTick
  exact hsense.trans ((Runs.foldl _ Runs.handContactChange _ _).trans ((hsettle _).trans (hrelease _)))

theorem Runs.tick (pins : BitVec 16) (high : Bool) :
    Runs s ((((s.withContacts (s.contacts.sampled s.globals.contactDebounce pins high)).countModeration).handTick
      s.contacts high)) :=
  (Runs.withContacts s (List.length_mapIdx ..)).trans
    ((Runs.countModeration _).trans (Runs.handTick _ _ _))

/-! ### Points (chapter 2) -/

theorem takeReportItem_cfg (src : Byte) (clock : Nat) (points : List (Option PointEntry))
    (item : Byte × Byte × Int) :
    (takeReportItem src clock points item).map (Option.map PointEntry.cfg) =
      points.map (Option.map PointEntry.cfg) := by
  unfold takeReportItem
  rw [List.map_map]
  refine List.map_congr_left (fun o _ => ?_)
  cases o with
  | none => rfl
  | some e =>
    simp only [Function.comp, Option.map_some]
    split <;> rfl

theorem Runs.takeReport (t : Telegram) : Runs s (s.takeReport t) := by
  refine Runs.withPoints s ?_
  generalize reportItems t.payload = items
  generalize s.points = points
  induction items generalizing points with
  | nil => rfl
  | cons item items ih => exact (ih _).trans (takeReportItem_cfg ..)

theorem Runs.updatePoint (i : Nat) {f : PointEntry → PointEntry} (h : ∀ e, (f e).cfg = e.cfg) :
    Runs s (s.updatePoint i f) := by
  unfold State.updatePoint
  split
  · exact Runs.refl s
  · rename_i e he
    refine Runs.withPoints s ?_
    obtain ⟨hlt, hv⟩ := List.getElem?_eq_some_iff.mp (entryAt_eq_some.mp he)
    have : (s.points.map (Option.map PointEntry.cfg))[i]'(by simpa using hlt) = some e.cfg := by simp [hv]
    rw [List.map_set, Option.map_some, h, ← this, List.set_getElem_self]

theorem pollStation_cfg (station clock budget : Nat) (points : List (Option PointEntry)) :
    (pollStation station clock budget points).1.map (Option.map PointEntry.cfg) =
      points.map (Option.map PointEntry.cfg) := by
  induction points generalizing budget with
  | nil => cases budget <;> rfl
  | cons o rest ih =>
    cases budget with
    | zero => rfl
    | succ b =>
      cases o with
      | none => simp [pollStation, ih]
      | some e =>
        unfold pollStation
        dsimp only
        split <;> simp [ih, PointEntry.poll]

/-! ### Actuator records on the branch (chapter 5) -/

theorem rewriteItems_moves (rules : List (Option OverrideRule)) (dest : Byte)
    (records : List (Option ActuatorRecord)) (items : List (Byte × Int)) :
    RecordTableMoves rules records (rewriteItems dest records items).1 := by
  induction items generalizing records with
  | nil => exact RecordTableMoves.refl _ _
  | cons item rest ih =>
    unfold rewriteItems
    dsimp only
    split
    · exact ih records
    · exact (RecordTableMoves.updateRecords (fun r => capture_moves rules r item.2)).trans (ih _)

theorem Runs.takeApplied (t : Telegram) : Runs s (s.takeApplied t) := by
  refine Runs.withRecords s ?_
  generalize settingItems t.payload = items
  generalize s.records = records
  induction items generalizing records with
  | nil => exact RecordTableMoves.refl _ _
  | cons item items ih =>
    exact (RecordTableMoves.updateRecords (fun r => takeEcho_moves s.rules r s.plantClock item.2)).trans (ih _)

theorem Runs.ownSetFails (station channel : Nat) : Runs s (s.ownSetFails station channel) := by
  unfold State.ownSetFails
  split
  · exact Runs.refl s
  · have hm := Runs.withRecords s (RecordTableMoves.updateRecords (station := station) (channel := channel)
      (fun r => miss_moves s.rules r s.plantClock))
    dsimp only
    split
    · exact hm.trans (Runs.raiseActuatorLost _)
    · exact hm

theorem Runs.refreshExpiry (i : Nat) {r : ActuatorRecord} (hr : entryAt s.records i = some r)
    (ht : r.refreshTimer.isSome = true) :
    Runs s (s.withRecords (s.records.set i (some { r with need := needAfterRefresh r.need s.plantClock }))) :=
  Runs.withRecords s (RecordTableMoves.set (entryAt_eq_some.mp hr) (refreshExpiry_moves _ r _ ht))

/-! ### Ports and the branch transaction (chapters 7 to 9) -/

theorem Runs.updatePort (p : PortId) (f : Port → Port) : Runs s (s.updatePort p f) := by
  cases p <;> exact SameTables.runs (by constructor <;> rfl)

theorem Runs.count (p : PortId) (f : Counters → Counters) : Runs s (s.count p f) := Runs.updatePort s p _

theorem Runs.withTxn (x : TxnState) : Runs s (s.withTxn x) := SameTables.runs (by constructor <;> rfl)

theorem Runs.fillReserved (t : OutTelegram) : Runs s (s.fillReserved t) :=
  SameTables.runs (by constructor <;> rfl)

theorem Runs.fillFreeOrDrop (t : Telegram) : Runs s (s.fillFreeOrDrop t) := by
  unfold State.fillFreeOrDrop
  split
  · exact SameTables.runs (by constructor <;> rfl)
  · exact Runs.count s _ _

theorem Runs.reservePlace : Runs s s.reservePlace := SameTables.runs (by constructor <;> rfl)

theorem Runs.endTransaction (r : TxnResult) : Runs s (s.endTransaction r) := by
  have hown (station channel : Nat) (live : Bool) : Runs s (s.ownSetResult station channel live r) := by
    unfold State.ownSetResult
    split
    · exact Runs.refl s
    · split
      · exact Runs.ownSetFails s _ _
      · exact Runs.refl s
  have hdeliver (t : Transaction) : Runs s (s.deliverResult t r) := by
    unfold State.deliverResult
    split
    · exact Runs.fillReserved s _
    · exact hown _ _ _
    · exact Runs.refl s
  unfold State.endTransaction
  split
  · exact (hdeliver _).trans (SameTables.runs (by constructor <;> rfl))
  · exact Runs.refl s

theorem Runs.endIfReceiving (r : TxnResult) : Runs s (s.endIfReceiving r) := by
  unfold State.endIfReceiving
  split
  · exact Runs.endTransaction s r
  · exact Runs.refl s

theorem Runs.movePhase (p : TxnPhase) : Runs s (s.movePhase p) := by
  unfold State.movePhase
  split
  · exact Runs.withTxn s _
  · exact Runs.refl s

theorem Runs.countTurnaround : Runs s s.countTurnaround := by
  unfold State.countTurnaround
  split
  · split <;> exact Runs.withTxn s _
  · exact Runs.refl s

theorem Runs.formRequest (g : Grant) : Runs s (s.formRequest g).1 := by
  unfold State.formRequest
  split
  · exact Runs.withRecords s (RecordTableMoves.updateRecords (fun r => afterOwnSet_moves s.rules r))
  · rename_i t rest
    have hq : Runs s (s.withRelayQueue rest) := SameTables.runs (by constructor <;> rfl)
    split
    · exact hq.trans (Runs.withRecords _ (rewriteItems_moves s.rules t.dest s.records _))
    · exact hq
  · exact Runs.withPoints s (pollStation_cfg ..)

theorem Runs.withFairness (n : Nat) : Runs s (s.withFairness n) := SameTables.runs (by constructor <;> rfl)

theorem Runs.beginTransaction (request : Telegram) (origin : TxnOrigin) :
    Runs s (s.beginTransaction request origin) := SameTables.runs (by constructor <;> rfl)

theorem Runs.grant (g : Grant) : Runs s (s.grant g) := by
  unfold State.grant
  exact (Runs.formRequest s g).trans ((Runs.withFairness _ _).trans (Runs.beginTransaction _ _ _))

theorem Runs.branchLeft : Runs s s.branchLeft :=
  (Runs.updatePort s .branch _).trans (Runs.movePhase _ _)

theorem Runs.lineFaults : Runs s s.lineFaults := by
  unfold State.lineFaults
  exact (Runs.updatePort s .branch _).trans ((Runs.count _ .branch _).trans (Runs.endTransaction _ _))

theorem Runs.endBreak : Runs s s.endBreak := (Runs.updatePort s .branch _).trans (Runs.movePhase _ _)

theorem Runs.telegramError (p : PortId) : Runs s (s.telegramError p) := by
  unfold State.telegramError
  split
  · exact Runs.updatePort s p _
  · exact (Runs.updatePort s p _).trans (Runs.raisePortRestart _)

theorem Runs.discardInAssembly (p : PortId) : Runs s (s.discardInAssembly p) := by
  unfold State.discardInAssembly
  split
  · exact Runs.telegramError s _
  · exact (Runs.endIfReceiving s _).trans (Runs.telegramError _ _)

theorem Runs.takeRelayCandidate (t : Telegram) : Runs s (s.takeRelayCandidate t) := by
  unfold State.takeRelayCandidate
  split
  · exact SameTables.runs (by constructor <;> rfl)
  · exact Runs.fillFreeOrDrop s _

theorem Runs.branchIntake (t : Telegram) : Runs s (s.branchIntake t) := by
  have hjudge (u : State) : Runs u (u.judgeAnswer t) := by
    unfold State.judgeAnswer
    split
    · exact Runs.endTransaction u _
    · exact Runs.refl u
  unfold State.branchIntake
  dsimp only
  refine Runs.trans ?_ (hjudge _)
  split
  · exact Runs.takeReport s t
  · split
    · exact Runs.takeApplied s t
    · exact Runs.refl s

theorem Runs.discardAddress (p : PortId) : Runs s (s.discardAddress p) := by
  unfold State.discardAddress
  dsimp only
  split
  · exact Runs.count s _ _
  · exact (Runs.count s _ _).trans (Runs.endIfReceiving _ _)

theorem Runs.gapExpires (p : PortId) : Runs s (s.gapExpires p) := by
  unfold State.gapExpires
  exact (Runs.updatePort s p _).trans ((Runs.count _ p _).trans (Runs.discardInAssembly _ p))

theorem Runs.mapMarks (f : Mark → Mark) : Runs s (s.withNotice (s.notice.mapMarks f)) :=
  Runs.withNotice s (List.length_map ..)

theorem Runs.noticeLost (o : TxOwner) : Runs s (s.noticeLost o) := by
  unfold State.noticeLost
  split
  · exact Runs.mapMarks s _
  · exact Runs.refl s
  · exact Runs.refl s

theorem Runs.collide (t : Transmission) : Runs s (s.collide t) := by
  unfold State.collide
  exact (Runs.updatePort s .trunk _).trans ((Runs.count _ .trunk _).trans (Runs.noticeLost _ _))

theorem Runs.withStaged (x : Staged) : Runs s (s.withStaged x) := SameTables.runs (by constructor <;> rfl)

theorem Runs.withResponseTimeout (n : Nat) : Runs s (s.withResponseTimeout n) :=
  SameTables.runs (by constructor <;> rfl)

theorem Runs.applyStaged (p : PortId) : Runs s (s.applyStaged p) := by
  unfold State.applyStaged
  split
  · cases p
    · dsimp only
      split
      · exact Runs.refl s
      · exact (Runs.updatePort s .trunk _).trans (Runs.withStaged _ _)
    · dsimp only
      split
      · exact Runs.refl s
      · unfold State.applyBranch
        exact (Runs.updatePort s .branch _).trans ((Runs.withResponseTimeout _ _).trans
          ((Runs.withStaged _ _).trans (Runs.endIfReceiving _ _)))
  · exact Runs.refl s

theorem Runs.lineIdles (p : PortId) : Runs s (s.lineIdles p) := by
  unfold State.lineIdles
  exact (Runs.updatePort s p _).trans (Runs.applyStaged _ p)

theorem Runs.trackTurnaround (p : PortId) : Runs s (s.trackTurnaround p) := by
  cases p
  · exact Runs.refl s
  · exact Runs.countTurnaround s

/-! ### RESTART (R175) and the end of FALLBACK (R189) -/

theorem Runs.takeLevelsAndRecompute : Runs s s.takeLevelsAndRecompute :=
  Runs.trans (t := s.withHeldLevels (s.coils.map (fun k => k.state.level)))
    { Runs.refl s with heldLevels := fun h => by simp [h] } (Runs.recomputeWhere _ _)

theorem Runs.restartCoil (c : CoilId) : Runs s (s.restartCoil c) := by
  unfold State.restartCoil
  split <;> first | exact Runs.enterStartup s c | exact Runs.refl s

theorem Runs.restartNow : Runs s s.restartNow := by
  have htraffic : Runs s s.restartTraffic :=
    { Runs.refl s with noticeCoils := List.length_map .. }
  have hpoints (u : State) : Runs u (u.withPoints (u.points.map
      (Option.map (fun e => startEntry e.cfg u.plantClock)))) :=
    Runs.withPoints u (by
      rw [List.map_map]
      exact List.map_congr_left (fun o _ => by cases o <;> rfl))
  have hrecords (u : State) : Runs u (u.withRecords (u.records.map
      (Option.map ActuatorRecord.reinitialised))) :=
    Runs.withRecords u (RecordTableMoves.map (reinitialised_moves u.rules))
  exact htraffic.trans ((hpoints _).trans ((Runs.foldl _ Runs.restartCoil _ _).trans
    ((hrecords _).trans (Runs.takeLevelsAndRecompute _))))

theorem Runs.leaveFallback : Runs s s.leaveFallback := by
  unfold State.leaveFallback
  split
  · exact Runs.trans (SameTables.runs (by constructor <;> rfl)) (Runs.deriveTripOutput _)
  · exact Runs.refl s

theorem Runs.trunkLeft (t : Transmission) : Runs s (s.trunkLeft t) := by
  have hhead (u : State) : Runs u u.listHeadLeft := by
    unfold State.listHeadLeft
    split
    · exact Runs.refl u
    · rename_i first rest _
      refine Runs.trans (t := u.withTrunkOut { u.trunkOut with filled := rest })
        (SameTables.runs (by constructor <;> rfl)) ?_
      unfold State.replyLeft
      split
      · exact Runs.refl _
      · exact SameTables.runs (by constructor <;> rfl)
      · exact Runs.restartNow _
  unfold State.trunkLeft
  dsimp only
  refine (Runs.updatePort s .trunk Port.endTransmission).trans ?_
  split
  · exact hhead _
  · exact Runs.withNotice _ (List.length_map ..)
  · exact Runs.refl _

theorem Runs.readBack (p : PortId) (t : Transmission) (l : Level) : Runs s (s.readBack p t l) := by
  unfold State.readBack
  extract_lets phase next u
  split
  · cases p
    · exact Runs.collide s t
    · exact Runs.lineFaults s
  · have hport : Runs s u := Runs.updatePort s p _
    clear_value u
    refine hport.trans ?_
    split
    · cases p
      · exact Runs.trunkLeft u t
      · exact Runs.branchLeft u
    · split
      · exact Runs.endBreak u
      · exact Runs.refl u

end Sys2Proof.Machine
end

section
/-! The changes of the tables beside running: loads, a COMMIT and its end, and power-on, and that every step
is a chain of them (`step_reaches`). A law of the tables is kept by every step when each change keeps it
(`keptByEveryStep_of_change`). -/

namespace Sys2Proof.Machine

/-- One change of the tables: an event runs, or a request loads or clears an entry, or a COMMIT begins or
ends, or the part powers on. -/
inductive TableChange : State → State → Prop where
  | runs {s t : State} : Runs s t → TableChange s t
  | pointLoaded {s : State} {fields : List Nat} {req : PointConfig} {i : Nat} :
      requestedPoint fields = some req → s.breaksUniqueness req = false →
      placeIndex (pointIndex s.points req.station req.channel) s.points = some i →
      TableChange s (s.withPoints (s.points.set i (some (startEntry (clampPoint req) s.plantClock))))
  | pointCleared {s : State} {i : Nat} : TableChange s (s.withPoints (s.points.set i none))
  | ruleLoaded {s : State} {fields : List Nat} {req : OverrideRule} {i : Nat} :
      requestedRule fields = some req →
      placeIndex (ruleIndex s.rules req.coil req.station req.channel req.level) s.rules = some i →
      TableChange s ((s.withRules (s.rules.set i (some (clampRule req)))).withRecords
        (ensureRecord s.records req.station req.channel))
  | ruleCleared {s : State} {c : CoilId} {station channel : Nat} {l : RuleLevel} {i : Nat} :
      ruleIndex s.rules c station channel l = some i →
      TableChange s ((s.withRules (s.rules.set i none)).withRecords
        (if ((s.rules.set i none).filterMap id).any (fun r => ruleNames r station channel) then s.records
         else removeRecord s.records station channel))
  | relaySetLoaded {s : State} {stations : List Nat} :
      RelaySetInRange stations → TableChange s (s.withRelaySet stations)
  | commitTaken {s : State} {src : Byte} :
      TableChange s ((s.withCommit (some { requester := src, contents := s.imageContents })).withStore
        { condition := .erased, contents := none, checkWord := none })
  | commitEnded {s : State} {q : CommitInFlight} {success : Bool} : s.commit = some q →
      TableChange s ((s.withStore (if success then Store.written q.contents else Store.spoilt)).withCommit none)
  | poweredOn {s : State} {straps : BitVec 5} {image : ImageContents} :
      s.storeAtPowerOn.passing = some image →
      TableChange s ((s.powerOnTables straps image).withRecords (rebuildRecords image.rules))
  | fellBack {s : State} {straps : BitVec 5} : TableChange s (s.powerOnFallback straps)

/-- A chain of table changes leads from one state to another. -/
def Reaches (s t : State) : Prop := Relation.ReflTransGen TableChange s t

theorem Reaches.trans {s t u : State} (h : Reaches s t) (h' : Reaches t u) : Reaches s u :=
  Relation.ReflTransGen.trans h h'

theorem TableChange.reaches {s t : State} (h : TableChange s t) : Reaches s t :=
  Relation.ReflTransGen.single h

theorem Runs.reaches {s t : State} (h : Runs s t) : Reaches s t := (TableChange.runs h).reaches

theorem Reaches.refl (s : State) : Reaches s s := Relation.ReflTransGen.refl

/-- What every table change keeps, a chain of them keeps. -/
theorem Reaches.keeps {law : State → Prop} (hlaw : ∀ s t, TableChange s t → law s → law t) {s t : State}
    (h : Reaches s t) (hs : law s) : law t := by
  induction h with
  | refl => exact hs
  | tail _ hc ih => exact hlaw _ _ hc ih

variable (s : State)

/-! ### Management requests (chapters 1, 4 and 10) -/

theorem Reaches.serveAdmin {src code : Byte} {gated : Bool} {serve : State → Served}
    (h : ∀ u, Reaches u (serve u).state) : Reaches s (s.serveAdmin src code gated serve) := by
  unfold State.serveAdmin
  extract_lets served
  have hs : Reaches s served.state := by
    by_cases hb : (s.restartPending || (gated && s.commit.isSome)) = true
    · simp only [served, hb, if_true]; exact Reaches.refl s
    · simp only [served, hb]; exact h s
  split
  · exact hs
  · exact hs.trans (Runs.fillReserved _ _).reaches

theorem Reaches.takeAdmin {src code : Byte} {gated : Bool} {serve : State → Served}
    (h : ∀ u, Reaches u (serve u).state) : Reaches s (s.takeAdmin src code gated serve) := by
  unfold State.takeAdmin
  split
  · exact (Runs.reservePlace s).reaches.trans (Reaches.serveAdmin _ h)
  · exact (Runs.fillFreeOrDrop s _).reaches

theorem clampConfig_inRange (k : CoilConfig) : ConfigInRange (clampConfig k) := by
  constructor <;> simp only [clampConfig]
  case autoReset =>
    intro x hx
    obtain ⟨y, -, rfl⟩ := Option.map_eq_some_iff.mp hx
    rw [clampNat_eq (by omega)]; omega
  case coldWeatherOat =>
    intro x hx
    obtain ⟨y, -, rfl⟩ := Option.map_eq_some_iff.mp hx
    rw [clampInt_eq (by omega)]; omega
  case blindTripTime =>
    unfold clampBlindTripTime
    split
    · exact Or.inl rfl
    · rw [clampNat_eq (by omega)]; omega
  case guardBand =>
    rw [clampInt_eq (lo := 0) (hi := 1000) (by omega), clampInt_eq (by omega)]; omega
  all_goals first
    | (rw [clampNat_eq (by omega)]; omega)
    | (rw [clampInt_eq (by omega)]; omega)

theorem Reaches.serveLoadCoil (args : List Byte) : Reaches s (serveLoadCoil args s).state := by
  unfold Machine.serveLoadCoil
  split
  · split
    · split
      · exact Reaches.refl s
      · rename_i c req _ _ hs
        have hs : (s.coil c).state = .offline := by simpa using hs
        refine (Runs.setCoil s ⟨fun h => ?_, fun _ => clampConfig_inRange req⟩).reaches
        have hd : (s.coil c).eval.dose = 0 := by rw [(h.outOfService hs).1]; rfl
        exact { h with dose := by simp [hd] }
    · exact Reaches.refl s
  · exact Reaches.refl s

theorem Reaches.serveLoadPoint (args : List Byte) : Reaches s (serveLoadPoint args s).state := by
  unfold Machine.serveLoadPoint
  split
  · exact Reaches.refl s
  · rename_i req hreq
    obtain ⟨fields, -, hf⟩ := Option.bind_eq_some_iff.mp hreq
    split
    · exact Reaches.refl s
    · split
      · exact Reaches.refl s
      · rename_i hu
        split
        · exact Reaches.refl s
        · rename_i hi
          exact (TableChange.pointLoaded hf (by simpa using hu) hi).reaches

theorem Reaches.serveClearPoint (args : List Byte) : Reaches s (serveClearPoint args s).state := by
  unfold Machine.serveClearPoint
  split
  · split
    · exact Reaches.refl s
    · split
      · exact Reaches.refl s
      · split
        · exact Reaches.refl s
        · exact TableChange.pointCleared.reaches
  · exact Reaches.refl s

theorem Reaches.serveLoadRule (args : List Byte) : Reaches s (serveLoadRule args s).state := by
  unfold Machine.serveLoadRule
  split
  · exact Reaches.refl s
  · rename_i req hreq
    obtain ⟨fields, -, hf⟩ := Option.bind_eq_some_iff.mp hreq
    split
    · exact Reaches.refl s
    · split
      · exact Reaches.refl s
      · rename_i hi
        exact (TableChange.ruleLoaded hf hi).reaches.trans (Runs.recomputeWhere _ _).reaches

theorem Reaches.afterRuleRemoved {c : CoilId} {station channel : Nat} {l : RuleLevel} {i : Nat}
    (hi : ruleIndex s.rules c station channel l = some i) :
    Reaches s ((s.withRules (s.rules.set i none)).afterRuleRemoved station channel) := by
  have hc := (TableChange.ruleCleared hi).reaches
  unfold State.afterRuleRemoved
  by_cases hn : ((s.rules.set i none).filterMap id).any (fun r => ruleNames r station channel) = true
  · rw [if_pos hn] at hc
    rw [State.withRules_rules, if_pos hn]
    exact hc.trans (Runs.recomputeWhere _ _).reaches
  · rw [if_neg hn] at hc
    rw [State.withRules_rules, if_neg hn]
    exact hc.trans (Runs.withTxn _ _).reaches

theorem Reaches.serveClearRule (args : List Byte) : Reaches s (serveClearRule args s).state := by
  unfold Machine.serveClearRule
  split
  · split
    · split
      · exact Reaches.refl s
      · split
        · exact Reaches.refl s
        · rename_i hi
          split
          · exact Reaches.refl s
          · exact Reaches.afterRuleRemoved s hi
    · exact Reaches.refl s
  · exact Reaches.refl s

theorem isStation_iff (n : Nat) : isStation n = true ↔ 1 ≤ n ∧ n ≤ 199 := by simp [isStation]

theorem isChannel_iff (n : Nat) : isChannel n = true ↔ n ≤ 63 := by simp [isChannel]

theorem Reaches.serveLoadRelaySet (args : List Byte) : Reaches s (serveLoadRelaySet args s).state := by
  unfold Machine.serveLoadRelaySet
  dsimp only
  split
  · rename_i h
    obtain ⟨hlen, hall, hd⟩ := h
    exact (TableChange.relaySetLoaded ⟨hlen, fun a ha => (isStation_iff a).mp (List.all_eq_true.mp hall a ha),
      hd⟩).reaches
  · exact Reaches.refl s

theorem Runs.setEnabled (c : CoilId) (b : Bool) : Runs s (s.setCoil c { s.coil c with enabled := b }) :=
  Runs.setCoil s ⟨fun h => { h with }, fun h => h⟩

theorem Reaches.serveEnableCoil (args : List Byte) : Reaches s (serveEnableCoil args s).state := by
  unfold Machine.serveEnableCoil
  split
  · exact Reaches.refl s
  · split
    · exact Reaches.refl s
    · split
      · exact Reaches.refl s
      · exact ((Runs.setEnabled s _ true).trans (Runs.enterStartup _ _)).reaches

theorem Runs.takeOffline (c : CoilId) : Runs s (s.takeOffline c) :=
  Runs.enterState_setCoil s ⟨fun _ =>
    { cause := by simp [Coil.entering, causesOf], timer := rfl, outOfService := fun _ => ⟨rfl, rfl⟩
      dose := Nat.zero_le _, ring := Nat.zero_le _, history := Nat.zero_le _, dwell := Nat.zero_le _
      unknown := Nat.zero_le _, autoReset := Nat.zero_le _ }, fun h => h⟩

theorem Reaches.serveDisableCoil (args : List Byte) : Reaches s (serveDisableCoil args s).state := by
  unfold Machine.serveDisableCoil
  split
  · exact Reaches.refl s
  · split
    · exact Reaches.refl s
    · split
      · exact Reaches.refl s
      · exact (Runs.takeOffline s _).reaches

theorem Runs.resetCoil {c : CoilId} (hs : (s.coil c).state ≠ .offline) : Runs s (s.resetCoil c) := by
  unfold State.resetCoil
  dsimp only
  split
  · rename_i hl
    refine Runs.trans (t := s.setCoil c { s.coil c with tripHistory := [] })
      (Runs.setCoil s ⟨fun h => { h with outOfService := fun ho => absurd ho hs, history := Nat.zero_le _ },
        fun h => h⟩) (Runs.resetToGuard _ ?_)
    rw [s.coil_setCoil c _ (s.coil_lt_of_state hs)]
    exact hs
  · exact Runs.resetToGuard s hs

theorem Reaches.serveResetCoil (args : List Byte) : Reaches s (serveResetCoil args s).state := by
  unfold Machine.serveResetCoil
  split
  · split
    · split
      · exact Reaches.refl s
      · rename_i c _ _ _ hl
        split
        · exact Reaches.refl s
        · split
          · exact Reaches.refl s
          · refine (Runs.resetCoil s fun ho => hl ?_).reaches
            simp [ho, CoilState.latched]
    · exact Reaches.refl s
  · exact Reaches.refl s

theorem Reaches.serveSetPorts (args : List Byte) : Reaches s (serveSetPorts args s).state := by
  unfold Machine.serveSetPorts
  split
  · exact Reaches.refl s
  · exact (SameTables.runs (by constructor <;> rfl)).reaches

theorem Runs.clearSticky : Runs s s.clearSticky := by
  unfold State.clearSticky
  exact (Runs.updatePort s .trunk _).trans (Runs.updatePort _ .branch _)

theorem Runs.clearCounters : Runs s s.clearCounters := by
  unfold State.clearCounters
  exact (Runs.count s .trunk _).trans (Runs.count _ .branch _)

theorem Reaches.serveStatus (args : List Byte) : Reaches s (serveStatus args s).state := by
  unfold Machine.serveStatus
  split
  · exact Reaches.refl s
  · rename_i clear _
    cases clear
    · exact Reaches.refl s
    · exact (Runs.clearSticky s).reaches

theorem Reaches.serveReadCounters (args : List Byte) : Reaches s (serveReadCounters args s).state := by
  unfold Machine.serveReadCounters
  split
  · exact Reaches.refl s
  · rename_i clear _
    cases clear
    · exact Reaches.refl s
    · exact (Runs.clearCounters s).reaches

theorem Reaches.serveCommit (src : Byte) (args : List Byte) : Reaches s (serveCommit src args s).state := by
  unfold Machine.serveCommit
  split
  · exact TableChange.commitTaken.reaches
  · exact Reaches.refl s

theorem Reaches.serveRestart (args : List Byte) : Reaches s (serveRestart args s).state := by
  unfold Machine.serveRestart
  split
  · exact (SameTables.runs (by constructor <;> rfl)).reaches
  · exact Reaches.refl s

theorem serveCoilDetail_state (args : List Byte) : (serveCoilDetail args s).state = s := by
  unfold serveCoilDetail
  split
  · split <;> rfl
  · rfl

theorem serveReadPoints_state (args : List Byte) : (serveReadPoints args s).state = s := by
  unfold serveReadPoints
  split
  · split <;> rfl
  · rfl

theorem serveReadActuator_state (args : List Byte) : (serveReadActuator args s).state = s := by
  unfold serveReadActuator
  split
  · split <;> rfl
  · rfl

theorem Reaches.of_eq {s t : State} (h : t = s) : Reaches s t := h ▸ Reaches.refl s

section Requests
variable (src : Byte) (args : List Byte)

theorem Reaches.adminLoadCoil : Reaches s (s.adminLoadCoil src args) :=
  Reaches.takeAdmin s fun u => Reaches.serveLoadCoil u args

theorem Reaches.adminLoadPoint : Reaches s (s.adminLoadPoint src args) :=
  Reaches.takeAdmin s fun u => Reaches.serveLoadPoint u args

theorem Reaches.adminClearPoint : Reaches s (s.adminClearPoint src args) :=
  Reaches.takeAdmin s fun u => Reaches.serveClearPoint u args

theorem Reaches.adminLoadRule : Reaches s (s.adminLoadRule src args) :=
  Reaches.takeAdmin s fun u => Reaches.serveLoadRule u args

theorem Reaches.adminClearRule : Reaches s (s.adminClearRule src args) :=
  Reaches.takeAdmin s fun u => Reaches.serveClearRule u args

theorem Reaches.adminLoadRelaySet : Reaches s (s.adminLoadRelaySet src args) :=
  Reaches.takeAdmin s fun u => Reaches.serveLoadRelaySet u args

theorem Reaches.adminEnableCoil : Reaches s (s.adminEnableCoil src args) :=
  Reaches.takeAdmin s fun u => Reaches.serveEnableCoil u args

theorem Reaches.adminDisableCoil : Reaches s (s.adminDisableCoil src args) :=
  Reaches.takeAdmin s fun u => Reaches.serveDisableCoil u args

theorem Reaches.adminResetCoil : Reaches s (s.adminResetCoil src args) :=
  Reaches.takeAdmin s fun u => Reaches.serveResetCoil u args

theorem Reaches.adminSetPorts : Reaches s (s.adminSetPorts src args) :=
  Reaches.takeAdmin s fun u => Reaches.serveSetPorts u args

theorem Reaches.adminStatus : Reaches s (s.adminStatus src args) :=
  Reaches.takeAdmin s fun u => Reaches.serveStatus u args

theorem Reaches.adminReadCounters : Reaches s (s.adminReadCounters src args) :=
  Reaches.takeAdmin s fun u => Reaches.serveReadCounters u args

theorem Reaches.adminCommit : Reaches s (s.adminCommit src args) :=
  Reaches.takeAdmin s fun u => Reaches.serveCommit u src args

theorem Reaches.adminRestart : Reaches s (s.adminRestart src args) :=
  Reaches.takeAdmin s fun u => Reaches.serveRestart u args

theorem Reaches.adminCoilDetail : Reaches s (s.adminCoilDetail src args) :=
  Reaches.takeAdmin s fun u => Reaches.of_eq (serveCoilDetail_state u args)

theorem Reaches.adminReadPoints : Reaches s (s.adminReadPoints src args) :=
  Reaches.takeAdmin s fun u => Reaches.of_eq (serveReadPoints_state u args)

theorem Reaches.adminReadActuator : Reaches s (s.adminReadActuator src args) :=
  Reaches.takeAdmin s fun u => Reaches.of_eq (serveReadActuator_state u args)

theorem Reaches.takeUnknown (code : Byte) : Reaches s (s.takeUnknown src code) := by
  unfold State.takeUnknown
  split
  · exact ((Runs.reservePlace s).trans (Runs.fillReserved _ _)).reaches
  · exact (Runs.fillFreeOrDrop s _).reaches

theorem Reaches.takeAdminPayload (code : Byte) : Reaches s (s.takeAdminPayload src code args) := by
  unfold State.takeAdminPayload
  split
  · exact Reaches.adminLoadCoil s src args
  · exact Reaches.adminLoadPoint s src args
  · exact Reaches.adminClearPoint s src args
  · exact Reaches.adminLoadRule s src args
  · exact Reaches.adminClearRule s src args
  · exact Reaches.adminLoadRelaySet s src args
  · exact Reaches.adminEnableCoil s src args
  · exact Reaches.adminDisableCoil s src args
  · exact Reaches.adminResetCoil s src args
  · exact Reaches.adminSetPorts s src args
  · exact Reaches.adminStatus s src args
  · exact Reaches.adminReadCounters s src args
  · exact Reaches.adminCommit s src args
  · exact Reaches.adminRestart s src args
  · exact Reaches.adminCoilDetail s src args
  · exact Reaches.adminReadPoints s src args
  · exact Reaches.adminReadActuator s src args
  · exact Reaches.takeUnknown s src code

end Requests

/-! ### Receivers (chapter 7) -/

theorem Reaches.trunkIntake (t : Telegram) : Reaches s (s.trunkIntake t) := by
  unfold State.trunkIntake
  split
  · exact (Runs.takeRelayCandidate s t).reaches
  · split
    · exact Reaches.takeAdminPayload s _ _ _
    · exact Reaches.refl s

theorem Reaches.takeGood (p : PortId) (t : Telegram) : Reaches s (s.takeGood p t) := by
  unfold State.takeGood
  refine (Runs.updatePort s p (fun x => { x with errorRun := 0 })).reaches.trans ?_
  cases p
  · exact Reaches.trunkIntake _ t
  · exact (Runs.branchIntake _ t).reaches

theorem Reaches.completeTelegram (p : PortId) (bytes : List Byte) :
    Reaches s (s.completeTelegram p bytes) := by
  unfold State.completeTelegram
  refine (Runs.updatePort s p Port.toHunt).reaches.trans ?_
  dsimp only
  split
  · exact ((Runs.count _ p _).trans (Runs.discardInAssembly _ p)).reaches
  · split
    · exact (Runs.discardAddress _ p).reaches
    · exact Reaches.takeGood _ p _

theorem Reaches.assembleNext (p : PortId) (bytes : List Byte) (data : Byte) :
    Reaches s (s.assembleNext p bytes data) := by
  unfold State.assembleNext State.countLength
  dsimp only
  split
  · exact ((Runs.updatePort s p _).trans ((Runs.count _ p _).trans (Runs.discardInAssembly _ p))).reaches
  · split
    · exact Reaches.completeTelegram s p _
    · exact (Runs.updatePort s p _).reaches

theorem Runs.countCharError (p : PortId) (isBreak : Bool) : Runs s (s.countCharError p isBreak) :=
  (Runs.count s p _).trans (Runs.updatePort _ p _)

theorem Runs.answerBegins (p : PortId) : Runs s (s.answerBegins p) := by
  unfold State.answerBegins
  split
  · exact Runs.refl s
  · split
    · exact Runs.movePhase s _
    · exact Runs.refl s

theorem Reaches.takeCharIn (p : PortId) (ch : LineChar) : Reaches s (s.takeCharIn p ch) := by
  unfold State.takeCharIn State.countLength
  split
  · split
    · exact (Runs.countCharError s p _).reaches
    · split
      · exact ((Runs.updatePort s p _).trans (Runs.answerBegins _ p)).reaches
      · exact Reaches.refl s
  · split
    · exact ((Runs.countCharError s p _).trans (Runs.discardInAssembly _ p)).reaches
    · split
      · exact ((Runs.updatePort s p _).trans ((Runs.count _ p _).trans (Runs.discardInAssembly _ p))).reaches
      · exact Reaches.assembleNext s p _ _

theorem Runs.countNoise (p : PortId) (noise : Bool) : Runs s (s.countNoise p noise) := by
  unfold State.countNoise
  split
  · exact Runs.count s p _
  · exact Runs.refl s

theorem Reaches.takeChar (p : PortId) (ch : LineChar) : Reaches s (s.takeChar p ch) := by
  unfold State.takeChar
  exact ((Runs.updatePort s p _).trans (Runs.countNoise _ p _)).reaches.trans (Reaches.takeCharIn _ p ch)

/-! ### Samples (chapter 8) -/

theorem Reaches.sampleChar (p : PortId) (c : CharSampler) (l : Level) :
    Reaches s (s.sampleChar p c l) := by
  unfold State.sampleChar
  dsimp only
  split
  · split
    · exact (Runs.updatePort s p _).reaches
    · split
      · exact Reaches.takeChar s p _
      · exact (Runs.updatePort s p _).reaches
  · exact (Runs.updatePort s p _).reaches

theorem Reaches.receiveSpace (p : PortId) : Reaches s (s.receiveSpace p) := by
  unfold State.receiveSpace
  extract_lets u
  have hu : Reaches s u := (Runs.updatePort s p _).reaches
  clear_value u
  refine hu.trans ?_
  split
  · exact Reaches.sampleChar u p _ _
  · split
    · exact Reaches.refl u
    · exact (Runs.updatePort u p _).reaches

theorem Runs.countGap (p : PortId) : Runs s (s.countGap p) := by
  unfold State.countGap
  split
  · exact Runs.refl s
  · split
    · exact Runs.gapExpires s p
    · exact Runs.updatePort s p _

theorem Runs.countIdle (p : PortId) : Runs s (s.countIdle p) := by
  unfold State.countIdle
  split
  · exact Runs.updatePort s p _
  · split
    · exact Runs.refl s
    · exact Runs.lineIdles s p

theorem Reaches.receiveMark (p : PortId) : Reaches s (s.receiveMark p) := by
  unfold State.receiveMark
  extract_lets u v
  have hu : Reaches s u := (Runs.updatePort s p _).reaches
  have hv : Reaches u v := by
    dsimp only [v]
    clear_value u
    split
    · exact Reaches.sampleChar u p _ _
    · exact (Runs.countGap u p).reaches
  exact hu.trans (hv.trans (Runs.countIdle v p).reaches)

/-- A sample on either port: at mark and at space the same but for the level. -/
theorem Runs.sampled (p : PortId) (l : Level) :
    Runs s ((s.updatePort p (fun x => x.trackSpace l)).trackTurnaround p) :=
  (Runs.updatePort s p _).trans (Runs.trackTurnaround _ p)

/-! ### Power-on (R187) -/

theorem Runs.bringUp (c : CoilId) : Runs s (s.bringUp c) := by
  unfold State.bringUp
  split
  · exact Runs.enterStartup s c
  · exact Runs.refl s

/-- Running does not look at the actuator records that stand in the table. -/
theorem Runs.otherRecords {s t : State} (h : Runs s t) (rs : List (Option ActuatorRecord)) :
    Runs (s.withRecords rs) (t.withRecords rs) :=
  { h with records := RecordTableMoves.refl _ _ }

theorem Reaches.powerOnValid (straps : BitVec 5) {image : ImageContents}
    (h : s.storeAtPowerOn.passing = some image) : Reaches s (s.powerOnValid straps image) := by
  have hup := Runs.foldl _ Runs.bringUp coilIds (s.powerOnTables straps image)
  have hrules : (coilIds.foldl State.bringUp (s.powerOnTables straps image)).rules = image.rules := hup.rules
  unfold State.powerOnValid
  dsimp only
  rw [hrules]
  exact (TableChange.poweredOn h).reaches.trans
    ((hup.otherRecords _).trans (Runs.takeLevelsAndRecompute _)).reaches

/-! ### Every command -/

theorem Reaches.commitWriteEnd {q : CommitInFlight} (hq : s.commit = some q) (success : Bool) :
    Reaches s (if success then ((s.withStore (Store.written q.contents)).answerCommit q .accepted).leaveFallback
      else (s.withStore Store.spoilt).answerCommit q .storeFault) := by
  have hc := (TableChange.commitEnded (success := success) hq).reaches
  cases success
  · exact hc.trans (Runs.fillReserved _ _).reaches
  · exact hc.trans ((Runs.fillReserved _ _).trans (Runs.leaveFallback _)).reaches

theorem exec_reaches (c : Instr) (s t : State) (h : exec c s = .next t) : Reaches s t := by
  cases c <;> cases h
  case powerOnReset straps =>
    split
    · rename_i hp
      exact Reaches.powerOnValid s straps hp
    · exact TableChange.fellBack.reaches
  case loadCoil src args => exact Reaches.adminLoadCoil s src args
  case loadPoint src args => exact Reaches.adminLoadPoint s src args
  case clearPoint src args => exact Reaches.adminClearPoint s src args
  case loadRule src args => exact Reaches.adminLoadRule s src args
  case clearRule src args => exact Reaches.adminClearRule s src args
  case loadRelaySet src args => exact Reaches.adminLoadRelaySet s src args
  case enableCoil src args => exact Reaches.adminEnableCoil s src args
  case disableCoil src args => exact Reaches.adminDisableCoil s src args
  case resetCoil src args => exact Reaches.adminResetCoil s src args
  case setPorts src args => exact Reaches.adminSetPorts s src args
  case status src args => exact Reaches.adminStatus s src args
  case readCounters src args => exact Reaches.adminReadCounters s src args
  case commit src args => exact Reaches.adminCommit s src args
  case restart src args => exact Reaches.adminRestart s src args
  case coilDetail src args => exact Reaches.adminCoilDetail s src args
  case readPoints src args => exact Reaches.adminReadPoints s src args
  case readActuator src args => exact Reaches.adminReadActuator s src args
  case commitWriteEnd success =>
    split
    · exact Reaches.refl s
    · rename_i q hq
      exact Reaches.commitWriteEnd s hq success
  case characterReceived p ch =>
    split
    · exact Reaches.takeChar s p ch
    · exact Reaches.refl s
  case telegramComplete p last noise =>
    split
    · exact Reaches.takeChar s p _
    · exact Reaches.refl s
  case gapTimerExpiry p =>
    split
    · exact (Runs.gapExpires s p).reaches
    · exact Reaches.refl s
  case responseTimeout =>
    split
    · exact (Runs.endTransaction s _).reaches
    · exact Reaches.refl s
  case turnaroundEnd =>
    split
    · exact (Runs.withTxn s _).reaches
    · exact Reaches.refl s
  case lineIdleEvent p =>
    split
    · exact (Runs.lineIdles s p).reaches
    · exact Reaches.refl s
  case branchGrant =>
    split
    · split
      · exact (Runs.grant s _).reaches
      · exact Reaches.refl s
    · exact Reaches.refl s
  case trunkTransmissionBegin =>
    split
    · split
      · exact (Runs.updatePort s .trunk _).reaches
      · split
        · exact ((Runs.mapMarks s _).trans (Runs.updatePort _ .trunk _)).reaches
        · exact Reaches.refl s
    · exact Reaches.refl s
  case collision =>
    split
    · exact Reaches.refl s
    · exact (Runs.collide s _).reaches
  case branchLineFault =>
    split
    · exact (Runs.lineFaults s).reaches
    · exact Reaches.refl s
  case trunkTransmissionComplete =>
    split
    · exact Reaches.refl s
    · exact (Runs.trunkLeft s _).reaches
  case branchTransmissionComplete =>
    split
    · exact (Runs.branchLeft s).reaches
    · exact Reaches.refl s
  case evaluation c =>
    split
    · exact (Runs.evaluateCoil s ‹_›).reaches
    · exact Reaches.refl s
  case debouncedContactChange i newState =>
    split
    · exact ((Runs.withContacts s (List.length_set ..)).trans (Runs.handContactChange _ i)).reaches
    · exact Reaches.refl s
  case contactSettling =>
    split
    · exact Reaches.refl s
    · exact ((Runs.withContacts s (b := { s.contacts with settled := true }) rfl).trans
        (Runs.deriveTripOutput _)).reaches
  case debouncedSenseChange high =>
    split
    · exact Reaches.refl s
    · exact (Runs.changeSense s high).reaches
  case releaseTimerExpiry => exact (Runs.expireRelease s).reaches
  case pointAgeExpiry i =>
    exact (Runs.updatePoint s i.val fun e => by split <;> rfl).reaches
  case pollTimerExpiry i =>
    refine (Runs.updatePoint s i.val fun e => ?_).reaches
    unfold PointEntry.pollExpires
    split
    · rfl
    · split <;> rfl
  case refreshTimerExpiry r =>
    split
    · exact Reaches.refl s
    · split
      · exact (Runs.refreshExpiry s r.val ‹_› ‹_›).reaches
      · exact Reaches.refl s
  case tick pins high => exact (Runs.tick s pins high).reaches
  case plantClockIncrement =>
    split <;> exact (SameTables.runs (by constructor <;> rfl)).reaches
  case sampleAtSpace p =>
    extract_lets u
    have hu : Reaches s u := (Runs.sampled s p .space).reaches
    refine hu.trans ?_
    split
    · exact (Runs.readBack u p _ _).reaches
    · exact Reaches.receiveSpace u p
  case sampleAtMark p =>
    extract_lets u
    have hu : Reaches s u := (Runs.sampled s p .mark).reaches
    refine hu.trans ?_
    split
    · exact (Runs.readBack u p _ _).reaches
    · exact Reaches.receiveMark u p
  case breakEnd =>
    split
    · exact (Runs.endBreak s).reaches
    · exact Reaches.refl s

/-- Every step is a chain of table changes. -/
theorem step_reaches {s t : State} (h : step s = .next t) : Reaches s t := by
  unfold step at h
  split at h
  · cases h
    exact Reaches.refl s
  · exact (SameTables.runs (by constructor <;> rfl)).reaches.trans (exec_reaches _ _ _ h)

/-- A law that every table change keeps is kept by every step. -/
theorem keptByEveryStep_of_change {law : State → Prop} (h : ∀ s t, TableChange s t → law s → law t) :
    keptByEveryStep law :=
  fun _ _ hs ht => (step_reaches ht).keeps h hs

end Sys2Proof.Machine
end

section
/-! The laws of coils (O58) and of records over tables in range (O59): every table change keeps them. -/

namespace Sys2Proof.Machine

/-! ### Coils -/

theorem TableChange.keeps_coilsLaw (s t : State) (h : TableChange s t) (hs : s.CoilsLaw) : t.CoilsLaw := by
  cases h with
  | runs h => exact h.runtimes hs
  | poweredOn _ =>
    intro k hk
    obtain ⟨q, -, rfl⟩ := List.mem_map.mp hk
    exact powerOnCoil_law q.1 q.2
  | fellBack =>
    intro k hk
    obtain ⟨-, rfl⟩ := List.mem_replicate.mp hk
    exact powerOnCoil_law defaultCoilConfig false
  | _ => exact hs

/-! ### Values in range -/

theorem clampPoint_inRange {fields : List Nat} {req : PointConfig} (h : requestedPoint fields = some req) :
    PointInRange (clampPoint req) := by
  unfold requestedPoint at h
  split at h
  · rename_i owner role _ hrole
    split at h
    · rename_i hok
      cases h
      simp only [Bool.and_eq_true, isStation_iff, isChannel_iff] at hok
      obtain ⟨⟨hst, hch⟩, -⟩ := hok
      refine ⟨hst, hch, ?_, ?_, ?_, ?_⟩
      · rintro i (rfl : role = .face i)
        unfold roleOf at hrole
        split at hrole
        · cases hrole; assumption
        · split at hrole
          · cases hrole
          · split at hrole <;> cases hrole
      · simp only [clampPoint]
        rw [clampInt_eq (by omega)]; omega
      · simp only [clampPoint]
        rw [clampNat_eq (by omega)]; omega
      · simp only [clampPoint, clampPollInterval]
        split
        · exact Or.inl rfl
        · rw [clampNat_eq (by omega), clampNat_eq (by omega)]; omega
    · cases h
  · cases h

theorem requestedRule_key {fields : List Nat} {req : OverrideRule} (h : requestedRule fields = some req) :
    (1 ≤ req.station ∧ req.station ≤ 199) ∧ req.channel ≤ 63 := by
  unfold requestedRule at h
  split at h
  · split at h
    · rename_i hok
      cases h
      simpa only [Bool.and_eq_true, isStation_iff, isChannel_iff] using hok
    · cases h
  · cases h

theorem clampRule_inRange {fields : List Nat} {req : OverrideRule} (h : requestedRule fields = some req) :
    RuleInRange (clampRule req) := by
  obtain ⟨hst, hch⟩ := requestedRule_key h
  refine ⟨hst, hch, ?_, ?_⟩
  · simp only [clampRule]
    rw [clampInt_eq (by omega)]; omega
  · simp only [clampRule]
    rw [clampNat_eq (by omega)]; omega

theorem fresh_law {station channel : Nat} (hst : 1 ≤ station ∧ station ≤ 199) (hch : channel ≤ 63) :
    (ActuatorRecord.fresh station channel).Law := by
  refine ⟨hst, hch, ?_, ?_, ?_, fun _ => Or.inl rfl, rfl⟩ <;> rintro _ ⟨⟩

/-- What stands in a table after one index is set. -/
theorem mem_set_some {α : Type} {table : List (Option α)} {i : Nat} {o : Option α} {a : α}
    (h : some a ∈ table.set i o) : some a ∈ table ∨ o = some a :=
  (List.mem_or_eq_of_mem_set h).imp id Eq.symm

theorem mem_ensureRecord {records : List (Option ActuatorRecord)} {station channel : Nat}
    {r : ActuatorRecord} (h : some r ∈ ensureRecord records station channel) :
    some r ∈ records ∨ r = ActuatorRecord.fresh station channel := by
  unfold ensureRecord at h
  split at h
  · exact Or.inl h
  · split at h
    · exact Or.inl h
    · exact (mem_set_some h).imp id fun e => (Option.some.inj e).symm

theorem mem_removeRecord {records : List (Option ActuatorRecord)} {station channel : Nat}
    {r : ActuatorRecord} :
    some r ∈ removeRecord records station channel ↔ some r ∈ records ∧ r.hasKey station channel = false := by
  unfold removeRecord
  rw [List.mem_map]
  constructor
  · rintro ⟨o, ho, he⟩
    split at he
    · cases he
    · subst he
      rename_i hk
      exact ⟨ho, by simpa using hk⟩
  · rintro ⟨hm, hk⟩
    exact ⟨some r, hm, by simp [hk]⟩

/-- The records rebuilt from a rule table, without the free places after them (R20). -/
def builtRecords (rules : List OverrideRule) : List ActuatorRecord :=
  rules.foldl (fun acc r =>
    if acc.any (fun q => q.hasKey r.station r.channel) then acc
    else acc ++ [ActuatorRecord.fresh r.station r.channel]) []

theorem rebuildRecords_eq (rules : List (Option OverrideRule)) :
    rebuildRecords rules = padTo 48 none ((builtRecords (rules.filterMap id)).map some) := rfl

theorem builtRecords_append (rules : List OverrideRule) (r : OverrideRule) :
    builtRecords (rules ++ [r]) =
      if (builtRecords rules).any (fun q => q.hasKey r.station r.channel) then builtRecords rules
      else builtRecords rules ++ [ActuatorRecord.fresh r.station r.channel] := by
  simp [builtRecords, List.foldl_append]

theorem hasKey_iff (q : ActuatorRecord) (station channel : Nat) :
    q.hasKey station channel = true ↔ recordKey q = (station, channel) := by
  simp [ActuatorRecord.hasKey, recordKey]

/-- Each record rebuilt is a fresh one of a rule's pair. -/
theorem mem_builtRecords {rules : List OverrideRule} {q : ActuatorRecord} (h : q ∈ builtRecords rules) :
    ∃ r ∈ rules, q = ActuatorRecord.fresh r.station r.channel := by
  induction rules using List.reverseRecOn with
  | nil => cases h
  | append_singleton rules r ih =>
    rw [builtRecords_append] at h
    have hold (h : q ∈ builtRecords rules) :
        ∃ r' ∈ rules ++ [r], q = ActuatorRecord.fresh r'.station r'.channel := by
      obtain ⟨r', hr', he⟩ := ih h
      exact ⟨r', List.mem_append_left _ hr', he⟩
    split at h
    · exact hold h
    · rcases List.mem_append.mp h with h | h
      · exact hold h
      · exact ⟨r, by simp, List.mem_singleton.mp h⟩

theorem builtRecords_length (rules : List OverrideRule) : (builtRecords rules).length ≤ rules.length := by
  induction rules using List.reverseRecOn with
  | nil => exact Nat.le_refl _
  | append_singleton rules r ih =>
    rw [builtRecords_append]
    split <;> simp <;> omega

theorem some_mem_padTo {α : Type} {n : Nat} {xs : List α} {a : α}
    (h : some a ∈ padTo n none (xs.map some)) : a ∈ xs := by
  rcases List.mem_append.mp (List.mem_of_mem_take h) with h | h
  · simpa using h
  · cases (List.mem_replicate.mp h).2

theorem mem_rebuildRecords {rules : List (Option OverrideRule)} {q : ActuatorRecord}
    (h : some q ∈ rebuildRecords rules) :
    ∃ r, some r ∈ rules ∧ q = ActuatorRecord.fresh r.station r.channel := by
  rw [rebuildRecords_eq] at h
  obtain ⟨r, hr, he⟩ := mem_builtRecords (some_mem_padTo h)
  exact ⟨r, by simpa using hr, he⟩

/-! ### The image (R184 to R188) -/

/-- The image that a power-on takes is the one held, no write having been cut short. -/
theorem storeAtPowerOn_passing {s : State} {image : ImageContents}
    (h : s.storeAtPowerOn.passing = some image) : s.commit = none ∧ s.store.passing = some image := by
  unfold State.storeAtPowerOn at h
  split at h
  · cases h
  · rename_i hc
    exact ⟨by simpa using hc, h⟩

theorem storeAtPowerOn_contents {s : State} {m : ImageContents} (h : s.storeAtPowerOn.contents = some m) :
    s.store.contents = some m := by
  unfold State.storeAtPowerOn at h
  split at h
  · cases h
  · exact h

theorem passing_contents {s : State} {image : ImageContents} (h : s.storeAtPowerOn.passing = some image) :
    s.store.contents = some image :=
  ((Store.passing_eq_some _ _).mp (storeAtPowerOn_passing h).2).2.1

theorem mem_map_some {α β : Type} {f : α → β} {table : List (Option α)} {b : β}
    (h : some b ∈ table.map (Option.map f)) : ∃ a, some a ∈ table ∧ f a = b := by
  obtain ⟨o, ho, he⟩ := List.mem_map.mp h
  obtain ⟨a, rfl, hb⟩ := Option.map_eq_some_iff.mp he
  exact ⟨a, ho, hb⟩

theorem imageContents_inRange {s : State} (h : s.TablesLaw) : ImageInRange s.imageContents where
  relaySet := h.relaySet
  coils q hq := by
    obtain ⟨k, hk, rfl⟩ := List.mem_map.mp hq
    exact h.coils k hk
  points p hp := by
    obtain ⟨e, he, rfl⟩ := mem_map_some hp
    exact h.points e he
  rules := h.rules

/-- The laws that a state's tables obey hold in the tables that a power-on in fallback leaves. -/
theorem powerOnFallback_tablesLaw {s : State} (straps : BitVec 5) (h : s.TablesLaw) :
    (s.powerOnFallback straps).TablesLaw where
  relaySet := ⟨Nat.zero_le _, by simp [State.powerOnFallback, State.reset], List.nodup_nil⟩
  coils k hk := by
    obtain ⟨-, rfl⟩ := List.mem_replicate.mp hk
    exact defaultConfig_inRange
  points e he := by cases (List.mem_replicate.mp he).2
  rules r hr := by cases (List.mem_replicate.mp hr).2
  image m hm := h.image m (storeAtPowerOn_contents hm)
  writing := by rintro q ⟨⟩
  check hc := by
    have hstore : (s.powerOnFallback straps).store = s.storeAtPowerOn := rfl
    rw [hstore] at hc ⊢
    unfold State.storeAtPowerOn at hc ⊢
    split at hc
    · cases hc
    · rename_i hn
      rw [if_neg hn]
      exact h.check hc

theorem powerOnTables_tablesLaw {s : State} (straps : BitVec 5) {image : ImageContents}
    (hi : ImageInRange image) (h : s.TablesLaw) : (s.powerOnTables straps image).TablesLaw where
  relaySet := hi.relaySet
  coils k hk := by
    obtain ⟨q, hq, rfl⟩ := List.mem_map.mp hk
    exact hi.coils q hq
  points e he := by
    obtain ⟨p, hp, rfl⟩ := mem_map_some he
    exact hi.points p hp
  rules := hi.rules
  image := (powerOnFallback_tablesLaw straps h).image
  writing := by rintro q ⟨⟩
  check := (powerOnFallback_tablesLaw straps h).check

/-! ### Records over tables -/

theorem Runs.tablesLaw {s t : State} (h : Runs s t) (hs : s.TablesLaw) : t.TablesLaw where
  relaySet := by rw [h.relaySet]; exact hs.relaySet
  coils := h.configs hs.coils
  points e he := by
    have hm : some e.cfg ∈ t.points.map (Option.map PointEntry.cfg) := List.mem_map.mpr ⟨some e, he, rfl⟩
    rw [h.points] at hm
    obtain ⟨e', he', hc⟩ := mem_map_some hm
    exact hc ▸ hs.points e' he'
  rules := by rw [h.rules]; exact hs.rules
  image := by rw [h.store]; exact hs.image
  writing := by rw [h.commit]; exact hs.writing
  check := by rw [h.store]; exact hs.check

theorem TableChange.keeps_recordsLaw (s t : State) (h : TableChange s t) (hs : s.RecordsLaw) :
    t.RecordsLaw := by
  obtain ⟨ht, hr⟩ := hs
  cases h with
  | runs h => exact ⟨h.tablesLaw ht, h.records.law ht.rules hr⟩
  | pointLoaded hf _ _ =>
    refine ⟨{ ht with points := fun e he => ?_ }, hr⟩
    rcases mem_set_some he with hm | he
    · exact ht.points e hm
    · cases he
      exact clampPoint_inRange hf
  | pointCleared =>
    refine ⟨{ ht with points := fun e he => ?_ }, hr⟩
    rcases mem_set_some he with hm | he
    · exact ht.points e hm
    · cases he
  | ruleLoaded hf _ =>
    refine ⟨{ ht with rules := fun q hq => ?_ }, fun r hm => ?_⟩
    · rcases mem_set_some hq with hm | he
      · exact ht.rules q hm
      · cases he
        exact clampRule_inRange hf
    · rcases mem_ensureRecord hm with hm | rfl
      · exact hr r hm
      · exact fresh_law (requestedRule_key hf).1 (requestedRule_key hf).2
  | ruleCleared _ =>
    refine ⟨{ ht with rules := fun q hq => ?_ }, fun r hm => ?_⟩
    · rcases mem_set_some hq with hm | he
      · exact ht.rules q hm
      · cases he
    · rw [State.withRecords_records] at hm
      split at hm
      · exact hr r hm
      · exact hr r (mem_removeRecord.mp hm).1
  | relaySetLoaded h => exact ⟨{ ht with relaySet := h }, hr⟩
  | commitTaken =>
    exact ⟨{ ht with
      image := by rintro m ⟨⟩
      writing := by rintro q ⟨⟩; exact imageContents_inRange ht
      check := by rintro ⟨⟩ }, hr⟩
  | @commitEnded q success hq =>
    refine ⟨{ ht with image := ?_, writing := by rintro q ⟨⟩, check := ?_ }, hr⟩
    · cases success
      · rintro m ⟨⟩
      · rintro m ⟨⟩
        exact ht.writing q hq
    · cases success
      · rintro ⟨⟩
      · intro _
        exact ⟨rfl, q.contents, rfl, rfl⟩
  | @poweredOn straps image hp =>
    have hi := ht.image image (passing_contents hp)
    refine ⟨{ powerOnTables_tablesLaw straps hi ht with }, fun r hm => ?_⟩
    obtain ⟨q, hq, rfl⟩ := mem_rebuildRecords hm
    exact fresh_law (hi.rules q hq).station (hi.rules q hq).channel
  | @fellBack straps =>
    exact ⟨powerOnFallback_tablesLaw straps ht, fun r hm => by cases (List.mem_replicate.mp hm).2⟩

/-- Settles O58: every step is a chain of table changes, and each keeps the runtime law of every coil. -/
theorem coilsLawKeptByEveryStep : Obligations.CoilsLawKeptByEveryStep :=
  keptByEveryStep_of_change TableChange.keeps_coilsLaw

/-- Settles O59: every step is a chain of table changes, and each keeps tables and records in range. -/
theorem recordsLawKeptByEveryStep : Obligations.RecordsLawKeptByEveryStep :=
  keptByEveryStep_of_change TableChange.keeps_recordsLaw

end Sys2Proof.Machine
end

section
/-! The law of keys (O55): tables without a key twice, and a record for exactly the pairs that rules name. -/

namespace Sys2Proof.Machine

/-! ### Tables by their indices -/

section Tables
variable {α β κ : Type} {key : α → κ} {table : List (Option α)}

/-- Two occupied indices of a table without a key twice hold different keys. -/
theorem keysDistinct_iff : keysDistinct key table ↔
    ∀ (i j : Nat) (a b : α), table[i]? = some (some a) → table[j]? = some (some b) → key a = key b → i = j := by
  unfold keysDistinct List.Nodup
  rw [List.pairwise_map, List.pairwise_filterMap, List.pairwise_iff_getElem]
  constructor
  · intro h i j a b ha hb hk
    obtain ⟨hi, ha⟩ := List.getElem?_eq_some_iff.mp ha
    obtain ⟨hj, hb⟩ := List.getElem?_eq_some_iff.mp hb
    rcases Nat.lt_trichotomy i j with hij | hij | hij
    · exact absurd hk (h i j hi hj hij a ha b hb)
    · exact hij
    · exact absurd hk.symm (h j i hj hi hij b hb a ha)
  · intro h i j hi hj hij a ha b hb hk
    have := h i j a b (List.getElem?_eq_some_iff.mpr ⟨hi, ha⟩) (List.getElem?_eq_some_iff.mpr ⟨hj, hb⟩) hk
    omega

theorem keysDistinct_map {key : β → κ} {f : α → β} :
    keysDistinct key (table.map (Option.map f)) ↔ keysDistinct (key ∘ f) table := by
  have he : (table.map (Option.map f)).filterMap id = (table.filterMap id).map f := by
    rw [List.filterMap_map, List.map_filterMap]
    exact List.filterMap_congr fun o _ => by cases o <;> rfl
  rw [keysDistinct, keysDistinct, he, List.map_map]

theorem keysDistinct_congr {t' : List (Option α)}
    (h : t'.map (Option.map key) = table.map (Option.map key)) (hd : keysDistinct key table) :
    keysDistinct key t' := by
  rw [← Function.id_comp key, ← keysDistinct_map] at hd ⊢
  rwa [h]

theorem keysDistinct_set_none (i : Nat) (h : keysDistinct key table) :
    keysDistinct key (table.set i none) := by
  rw [keysDistinct_iff] at h ⊢
  intro a b x y hx hy
  rw [List.getElem?_set] at hx hy
  split at hx
  · split at hx <;> cases hx
  · split at hy
    · split at hy <;> cases hy
    · exact h a b x y hx hy

theorem keysDistinct_set_some {i : Nat} {a : α} (h : keysDistinct key table)
    (hi : ∀ j b, j ≠ i → table[j]? = some (some b) → key b ≠ key a) :
    keysDistinct key (table.set i (some a)) := by
  rw [keysDistinct_iff] at h ⊢
  intro m n x y hx hy hk
  rw [List.getElem?_set] at hx hy
  split at hx <;> split at hy
  · omega
  · split at hx <;> cases hx
    exact absurd hk.symm (hi n y (by omega) hy)
  · split at hy <;> cases hy
    exact absurd hk (hi m x (by omega) hx)
  · exact h m n x y hx hy hk

theorem keysDistinct_of_le {t' : List (Option α)} (h : keysDistinct key table)
    (hle : ∀ (i : Nat) a, t'[i]? = some (some a) → table[i]? = some (some a)) : keysDistinct key t' := by
  rw [keysDistinct_iff] at h ⊢
  exact fun i j a b ha hb => h i j a b (hle i a ha) (hle j b hb)

/-- Some entry of a table has a key. -/
theorem exists_key_iff {k : κ} :
    (∃ a, some a ∈ table ∧ key a = k) ↔ some k ∈ table.map (Option.map key) := by
  constructor
  · rintro ⟨a, ha, rfl⟩
    exact List.mem_map.mpr ⟨some a, ha, rfl⟩
  · exact mem_map_some

/-- The index of the first entry with a property. -/
theorem findIdx_any_eq_some {p : α → Bool} {i : Nat} :
    table.findIdx? (fun o => o.any p) = some i ↔
      (∃ a, table[i]? = some (some a) ∧ p a = true) ∧
      ∀ j a, j < i → table[j]? = some (some a) → p a = false := by
  rw [List.findIdx?_eq_some_iff_getElem]
  constructor
  · rintro ⟨hi, hp, hl⟩
    obtain ⟨a, ha, hpa⟩ : ∃ a, table[i] = some a ∧ p a = true := by
      cases ha : table[i] <;> simp_all
    refine ⟨⟨a, List.getElem?_eq_some_iff.mpr ⟨hi, ha⟩, hpa⟩, fun j b hj hb => ?_⟩
    obtain ⟨hjl, hb⟩ := List.getElem?_eq_some_iff.mp hb
    simpa [hb] using hl j hj
  · rintro ⟨⟨a, ha, hp⟩, hl⟩
    obtain ⟨hi, ha⟩ := List.getElem?_eq_some_iff.mp ha
    refine ⟨hi, by simp [ha, hp], fun j hj => ?_⟩
    cases hb : table[j] with
    | none => simp
    | some b => simp [hl j b hj (List.getElem?_eq_some_iff.mpr ⟨by omega, hb⟩)]

theorem findIdx_any_eq_none {p : α → Bool} :
    table.findIdx? (fun o => o.any p) = none ↔ ∀ a, some a ∈ table → p a = false := by
  rw [List.findIdx?_eq_none_iff]
  constructor
  · intro h a ha
    simpa using h _ ha
  · intro h o ho
    cases o with
    | none => rfl
    | some a => simpa using h a ho

theorem placeIndex_eq_some {held : Option Nat} {i : Nat} (h : placeIndex held table = some i) :
    held = some i ∨ (held = none ∧ lowestFree table = some i) := by
  unfold placeIndex at h
  split at h
  · exact Or.inl h
  · exact Or.inr ⟨rfl, h⟩

/-- A load by key takes the one index that holds the key, or an index of a table that does not hold it. -/
theorem placeIndex_others {p : α → Bool} {i : Nat} (hd : keysDistinct key table)
    (hp : ∀ a b, p a = true → p b = true → key a = key b)
    (h : placeIndex (table.findIdx? (fun o => o.any p)) table = some i) :
    ∀ j b, j ≠ i → table[j]? = some (some b) → p b = false := by
  intro j b hj hb
  rcases placeIndex_eq_some h with h | ⟨h, -⟩
  · obtain ⟨⟨a, ha, hpa⟩, -⟩ := findIdx_any_eq_some.mp h
    by_contra hpb
    exact hj (keysDistinct_iff.mp hd j i b a hb ha (hp b a (by simpa using hpb) hpa))
  · exact findIdx_any_eq_none.mp h b (List.mem_of_getElem? hb)

/-- An entry at another index stays when one is set. -/
theorem mem_set_of_ne {i j : Nat} {o : Option α} {a : α} (h : table[j]? = some (some a)) (hj : j ≠ i) :
    some a ∈ table.set i o :=
  List.mem_of_getElem? (by rw [List.getElem?_set_ne hj.symm]; exact h)

end Tables

/-! ### The keys of points, rules and records -/

theorem hasKey_point_iff (e : PointEntry) (station channel : Nat) :
    e.hasKey station channel = true ↔ pointKey e.cfg = (station, channel) := by
  simp [PointEntry.hasKey, pointKey]

theorem sameKey_iff (q : OverrideRule) (c : CoilId) (station channel : Nat) (l : RuleLevel) :
    OverrideRule.sameKey q c station channel l = true ↔ ruleKey q = (c, station, channel, l) := by
  simp [OverrideRule.sameKey, ruleNames, ruleKey, and_assoc]

theorem ruleNames_iff (q : OverrideRule) (station channel : Nat) :
    ruleNames q station channel = true ↔ (q.station, q.channel) = (station, channel) := by
  simp [ruleNames]

theorem requestedPoint_fits {fields : List Nat} {req : PointConfig} (h : requestedPoint fields = some req) :
    ownerFitsRole req.owner req.role = true := by
  unfold requestedPoint at h
  split at h
  · split at h
    · rename_i hok
      cases h
      exact (Bool.and_eq_true_iff.mp hok).2
    · cases h
  · cases h

theorem recordFor_isSome {records : List (Option ActuatorRecord)} {station channel : Nat} :
    hasRecord records station channel = true ↔
      ∃ r, some r ∈ records ∧ recordKey r = (station, channel) := by
  rw [hasRecord, recordFor, List.find?_isSome]
  simp only [hasKey_iff, List.mem_filterMap, id, exists_eq_right]

theorem ensureRecord_length (records : List (Option ActuatorRecord)) (station channel : Nat) :
    (ensureRecord records station channel).length = records.length := by
  unfold ensureRecord
  split
  · rfl
  · split
    · rfl
    · exact List.length_set ..

theorem subset_ensureRecord {records : List (Option ActuatorRecord)} {station channel : Nat}
    {r : ActuatorRecord} (h : some r ∈ records) : some r ∈ ensureRecord records station channel := by
  unfold ensureRecord
  split
  · exact h
  · split
    · exact h
    · rename_i i hi
      obtain ⟨j, hj⟩ := List.getElem?_of_mem h
      refine mem_set_of_ne hj fun he => ?_
      rw [he, (lowestFree_eq_some.mp hi).1] at hj
      cases hj

theorem ensureRecord_distinct {records : List (Option ActuatorRecord)} (station channel : Nat)
    (h : keysDistinct recordKey records) : keysDistinct recordKey (ensureRecord records station channel) := by
  unfold ensureRecord
  split
  · exact h
  · rename_i hn
    split
    · exact h
    · refine keysDistinct_set_some h fun j b _ hb hk => hn (recordFor_isSome.mpr ?_)
      exact ⟨b, List.mem_of_getElem? hb, hk⟩

theorem removeRecord_getElem? {records : List (Option ActuatorRecord)} {station channel i : Nat}
    {r : ActuatorRecord} :
    (removeRecord records station channel)[i]? = some (some r) ↔
      records[i]? = some (some r) ∧ r.hasKey station channel = false := by
  unfold removeRecord
  rw [List.getElem?_map]
  cases records[i]? with
  | none => simp
  | some o =>
    cases o with
    | none => simp
    | some x =>
      cases hx : x.hasKey station channel
      · simp [hx]
        rintro rfl; exact hx
      · simp [hx]
        rintro rfl; exact hx

/-! ### Room for a record (R14) -/

theorem filterMap_length_lt {α : Type} {table : List (Option α)} (h : none ∈ table) :
    (table.filterMap id).length < table.length := by
  refine Nat.lt_of_le_of_ne (List.length_filterMap_le ..) fun he => ?_
  have := (List.filterMap_length_eq_length.mp he) none h
  cases this

/-- While each record's pair is named by a rule and a rule index is free, a record index is free. -/
theorem lowestFree_of_free_rule {s : State} (hs : s.KeysLaw) (hf : none ∈ s.rules) :
    ∃ i, lowestFree s.records = some i := by
  by_contra hn
  have hn : none ∉ s.records := lowestFree_eq_none.mp (Option.eq_none_iff_forall_ne_some.mpr
    fun i hi => hn ⟨i, hi⟩)
  have hfull : (s.records.filterMap id).length = s.records.length :=
    List.filterMap_length_eq_length.mpr fun o ho => by
      cases o with
      | none => exact absurd ho hn
      | some r => rfl
  have hsub : (s.records.filterMap id).map recordKey ⊆
      (s.rules.filterMap id).map (fun q => (q.station, q.channel)) := by
    intro k hk
    obtain ⟨r, hr, rfl⟩ := List.mem_map.mp hk
    obtain ⟨q, hq, he⟩ := (hs.named (recordKey r)).mp ⟨r, by simpa using hr, rfl⟩
    exact List.mem_map.mpr ⟨q, by simpa using hq, he⟩
  have hle := (List.subperm_of_subset hs.records hsub).length_le
  have hlt := filterMap_length_lt hf
  rw [List.length_map, List.length_map, hfull, hs.shape.records] at hle
  rw [hs.shape.rules] at hlt
  omega

/-- After a LOAD-RULE its pair has a record. -/
theorem ensureRecord_has {s : State} (hs : s.KeysLaw) {c : CoilId} {station channel i : Nat}
    {l : RuleLevel} (hi : placeIndex (ruleIndex s.rules c station channel l) s.rules = some i) :
    ∃ r, some r ∈ ensureRecord s.records station channel ∧ recordKey r = (station, channel) := by
  by_cases hh : hasRecord s.records station channel = true
  · obtain ⟨r, hr, hk⟩ := recordFor_isSome.mp hh
    exact ⟨r, subset_ensureRecord hr, hk⟩
  · have hfree : none ∈ s.rules := by
      rcases placeIndex_eq_some hi with h | ⟨-, h⟩
      · obtain ⟨⟨q, hq, hk⟩, -⟩ := findIdx_any_eq_some.mp h
        rw [sameKey_iff] at hk
        cases hk
        exact absurd (recordFor_isSome.mpr ((hs.named _).mpr ⟨q, List.mem_of_getElem? hq, rfl⟩)) hh
      · exact List.mem_of_getElem? (lowestFree_eq_some.mp h).1
    obtain ⟨j, hj⟩ := lowestFree_of_free_rule hs hfree
    refine ⟨ActuatorRecord.fresh station channel, ?_, rfl⟩
    unfold ensureRecord
    rw [if_neg hh, hj]
    obtain ⟨hlt, -⟩ := List.getElem?_eq_some_iff.mp (lowestFree_eq_some.mp hj).1
    exact List.mem_of_getElem? (List.getElem?_set_self hlt)

/-! ### Records rebuilt (R20) -/

/-- The pairs of the records rebuilt are those that the rules name. -/
theorem mem_builtRecords_key {rules : List OverrideRule} {pair : Nat × Nat} :
    pair ∈ (builtRecords rules).map recordKey ↔ ∃ q ∈ rules, (q.station, q.channel) = pair := by
  induction rules using List.reverseRecOn with
  | nil => simp [builtRecords]
  | append_singleton rules r ih =>
    rw [builtRecords_append]
    split
    · rename_i h
      rw [ih]
      constructor
      · rintro ⟨q, hq, he⟩
        exact ⟨q, List.mem_append_left _ hq, he⟩
      · rintro ⟨q, hq, rfl⟩
        rcases List.mem_append.mp hq with hq | hq
        · exact ⟨q, hq, rfl⟩
        · cases List.mem_singleton.mp hq
          obtain ⟨x, hx, hk⟩ := List.any_eq_true.mp h
          rw [hasKey_iff] at hk
          exact ih.mp (hk ▸ List.mem_map_of_mem hx)
    · simp only [List.map_append, List.mem_append, ih, List.map_cons, List.map_nil, List.mem_singleton]
      constructor
      · rintro (⟨q, hq, he⟩ | he)
        · exact ⟨q, Or.inl hq, he⟩
        · exact ⟨r, Or.inr rfl, he.symm⟩
      · rintro ⟨q, hq | rfl, he⟩
        · exact Or.inl ⟨q, hq, he⟩
        · exact Or.inr he.symm

theorem builtRecords_nodup (rules : List OverrideRule) : ((builtRecords rules).map recordKey).Nodup := by
  induction rules using List.reverseRecOn with
  | nil => exact List.nodup_nil
  | append_singleton rules r ih =>
    rw [builtRecords_append]
    split
    · exact ih
    · rename_i h
      rw [List.map_append, List.nodup_append]
      refine ⟨ih, List.nodup_singleton _, fun k hk k' hk' he => h ?_⟩
      obtain ⟨x, hx, rfl⟩ := List.mem_map.mp hk
      rw [List.any_eq_true]
      refine ⟨x, hx, (hasKey_iff x _ _).mpr ?_⟩
      rw [he]
      exact List.mem_singleton.mp hk'

theorem padTo_eq {α : Type} {n : Nat} {fill : α} {xs : List α} (h : xs.length ≤ n) :
    padTo n fill xs = xs ++ List.replicate (n - xs.length) fill := by
  unfold padTo
  rw [List.take_append, List.take_of_length_le h, List.take_replicate, Nat.min_eq_left (by omega)]

theorem rebuildRecords_padded {rules : List (Option OverrideRule)} (h : rules.length = 48) :
    rebuildRecords rules = (builtRecords (rules.filterMap id)).map some ++
      List.replicate (48 - (builtRecords (rules.filterMap id)).length) none := by
  have hle : (builtRecords (rules.filterMap id)).length ≤ 48 :=
    (builtRecords_length _).trans (h ▸ List.length_filterMap_le ..)
  rw [rebuildRecords_eq, padTo_eq (by rwa [List.length_map]), List.length_map]

theorem rebuildRecords_length (rules : List (Option OverrideRule)) : (rebuildRecords rules).length = 48 := by
  rw [rebuildRecords_eq, padTo, List.length_take, List.length_append, List.length_replicate]
  omega

theorem rebuildRecords_entries {rules : List (Option OverrideRule)} (h : rules.length = 48) :
    (rebuildRecords rules).filterMap id = builtRecords (rules.filterMap id) := by
  rw [rebuildRecords_padded h, List.filterMap_append]
  simp [List.filterMap_map]

/-- The records rebuilt are for exactly the pairs that the rules name. -/
theorem rebuildRecords_named {rules : List (Option OverrideRule)} (h : rules.length = 48)
    (pair : Nat × Nat) : (∃ r, some r ∈ rebuildRecords rules ∧ recordKey r = pair) ↔
      ∃ q, some q ∈ rules ∧ (q.station, q.channel) = pair := by
  have hm := mem_builtRecords_key (rules := rules.filterMap id) (pair := pair)
  rw [← rebuildRecords_entries h] at hm
  simpa using hm

/-! ### Images -/

theorem imageContents_shaped {s : State} (h : s.ShapeLaw) : ImageShaped s.imageContents where
  coils := by simp [State.imageContents, h.coils]
  points := by simp [State.imageContents, h.points]
  rules := h.rules

theorem imageContents_keyed {s : State} (h : s.KeysLaw) : ImageKeyed s.imageContents where
  points := keysDistinct_map.mpr h.points
  duties := keysDistinct_map.mpr h.duties
  owners p hp := by
    obtain ⟨e, he, rfl⟩ := mem_map_some hp
    exact h.owners e he
  rules := h.rules

/-! ### The law -/

theorem length_of_map_eq {α β : Type} {f : α → β} {xs ys : List α} (h : ys.map f = xs.map f) :
    ys.length = xs.length := by
  simpa using congrArg List.length h

theorem Runs.shapeLaw {s t : State} (h : Runs s t) (hs : s.ShapeLaw) : t.ShapeLaw where
  coils := h.coilCount.trans hs.coils
  points := (length_of_map_eq h.points).trans hs.points
  rules := by rw [h.rules]; exact hs.rules
  records := (length_of_map_eq h.records.keys).trans hs.records
  heldLevels := (h.heldLevels (hs.heldLevels.trans hs.coils.symm)).trans hs.heldLevels
  inputs := h.inputs.trans hs.inputs
  noticeCoils := h.noticeCoils.trans hs.noticeCoils
  image := by rw [h.store]; exact hs.image
  writing := by rw [h.commit]; exact hs.writing

theorem Runs.keysLaw {s t : State} (h : Runs s t) (hs : s.KeysLaw) : t.KeysLaw where
  shape := h.shapeLaw hs.shape
  points := by
    have hd := keysDistinct_map (key := pointKey) (f := PointEntry.cfg) |>.mpr hs.points
    rw [← h.points] at hd
    exact keysDistinct_map.mp hd
  duties := by
    have hd := keysDistinct_map (key := pointDuty) (f := PointEntry.cfg) |>.mpr hs.duties
    rw [← h.points] at hd
    exact keysDistinct_map.mp hd
  owners e he := by
    have hm : some e.cfg ∈ t.points.map (Option.map PointEntry.cfg) := List.mem_map.mpr ⟨some e, he, rfl⟩
    rw [h.points] at hm
    obtain ⟨e', he', hc⟩ := mem_map_some hm
    exact hc ▸ hs.owners e' he'
  rules := by rw [h.rules]; exact hs.rules
  records := keysDistinct_congr h.records.keys hs.records
  named k := by rw [exists_key_iff, h.records.keys, ← exists_key_iff, h.rules]; exact hs.named k
  image := by rw [h.store]; exact hs.image
  writing := by rw [h.commit]; exact hs.writing

theorem pointLoaded_keysLaw {s : State} {fields : List Nat} {req : PointConfig} {i : Nat}
    (hf : requestedPoint fields = some req) (hu : s.breaksUniqueness req = false)
    (hi : placeIndex (pointIndex s.points req.station req.channel) s.points = some i) (hs : s.KeysLaw) :
    (s.withPoints (s.points.set i (some (startEntry (clampPoint req) s.plantClock)))).KeysLaw := by
  have hother : ∀ j b, j ≠ i → s.points[j]? = some (some b) → b.hasKey req.station req.channel = false :=
    placeIndex_others hs.points (fun a b ha hb =>
      ((hasKey_point_iff a _ _).mp ha).trans ((hasKey_point_iff b _ _).mp hb).symm) hi
  exact { hs with
    shape := { hs.shape with points := (List.length_set ..).trans hs.shape.points }
    points := keysDistinct_set_some hs.points fun j b hj hb hk => by
      have := (hasKey_point_iff b req.station req.channel).mpr hk
      rw [hother j b hj hb] at this
      cases this
    duties := keysDistinct_set_some hs.duties fun j b hj hb hk => by
      have hm : b ∈ s.points.filterMap id := by simpa using List.mem_of_getElem? hb
      have := List.any_eq_false.mp hu b hm
      obtain ⟨ho, hr⟩ : b.cfg.owner = req.owner ∧ b.cfg.role = req.role := by
        simpa [pointDuty, startEntry, clampPoint] using hk
      simp [hother j b hj hb, ho, hr] at this
    owners := fun e he => by
      rcases mem_set_some he with hm | he
      · exact hs.owners e hm
      · cases he
        exact (requestedPoint_fits hf :) }

theorem pointCleared_keysLaw {s : State} (i : Nat) (hs : s.KeysLaw) :
    (s.withPoints (s.points.set i none)).KeysLaw :=
  { hs with
    shape := { hs.shape with points := (List.length_set ..).trans hs.shape.points }
    points := keysDistinct_set_none i hs.points
    duties := keysDistinct_set_none i hs.duties
    owners := fun e he => by
      rcases mem_set_some he with hm | he
      · exact hs.owners e hm
      · cases he }

theorem ruleLoaded_keysLaw {s : State} {req : OverrideRule} {i : Nat}
    (hi : placeIndex (ruleIndex s.rules req.coil req.station req.channel req.level) s.rules = some i)
    (hs : s.KeysLaw) : ((s.withRules (s.rules.set i (some (clampRule req)))).withRecords
      (ensureRecord s.records req.station req.channel)).KeysLaw := by
  have hother : ∀ j b, j ≠ i → s.rules[j]? = some (some b) → ruleKey b ≠ ruleKey (clampRule req) := by
    intro j b hj hb hk
    have := placeIndex_others hs.rules (fun a b ha hb =>
      ((sameKey_iff a _ _ _ _).mp ha).trans ((sameKey_iff b _ _ _ _).mp hb).symm) hi j b hj hb
    rw [(sameKey_iff b req.coil req.station req.channel req.level).mpr hk] at this
    cases this
  have hlt : i < s.rules.length := by
    rcases placeIndex_eq_some hi with h | ⟨-, h⟩
    · obtain ⟨⟨q, hq, -⟩, -⟩ := findIdx_any_eq_some.mp h
      exact (List.getElem?_eq_some_iff.mp hq).1
    · exact (List.getElem?_eq_some_iff.mp (lowestFree_eq_some.mp h).1).1
  have hnew : some (clampRule req) ∈ s.rules.set i (some (clampRule req)) :=
    List.mem_of_getElem? (List.getElem?_set_self hlt)
  exact { hs with
    shape := { hs.shape with
      rules := (List.length_set ..).trans hs.shape.rules
      records := (ensureRecord_length ..).trans hs.shape.records }
    rules := keysDistinct_set_some hs.rules hother
    records := ensureRecord_distinct _ _ hs.records
    named := fun key => by
      constructor
      · rintro ⟨r, hr, rfl⟩
        rcases mem_ensureRecord hr with hr | rfl
        · obtain ⟨q, hq, hk⟩ := (hs.named (recordKey r)).mp ⟨r, hr, rfl⟩
          obtain ⟨j, hj⟩ := List.getElem?_of_mem hq
          by_cases hji : j = i
          · rcases placeIndex_eq_some hi with h | ⟨-, h⟩
            · obtain ⟨⟨q', hq', hk'⟩, -⟩ := findIdx_any_eq_some.mp h
              rw [← hji, hj] at hq'
              cases hq'
              obtain ⟨-, hst, hch, -⟩ := by simpa [ruleKey] using (sameKey_iff q _ _ _ _).mp hk'
              exact ⟨clampRule req, hnew, (Prod.ext hst.symm hch.symm).trans hk⟩
            · rw [hji, (lowestFree_eq_some.mp h).1] at hj
              cases hj
          · exact ⟨q, mem_set_of_ne hj hji, hk⟩
        · exact ⟨clampRule req, hnew, rfl⟩
      · rintro ⟨q, hq, rfl⟩
        rcases mem_set_some hq with hq | he
        · obtain ⟨r, hr, hk⟩ := (hs.named _).mpr ⟨q, hq, rfl⟩
          exact ⟨r, subset_ensureRecord hr, hk⟩
        · cases he
          exact ensureRecord_has hs hi }

theorem ruleCleared_keysLaw {s : State} {c : CoilId} {station channel : Nat} {l : RuleLevel} {i : Nat}
    (hi : ruleIndex s.rules c station channel l = some i) (hs : s.KeysLaw) :
    ((s.withRules (s.rules.set i none)).withRecords
      (if ((s.rules.set i none).filterMap id).any (fun r => ruleNames r station channel) then s.records
       else removeRecord s.records station channel)).KeysLaw := by
  obtain ⟨⟨gone, hgone, hkey⟩, -⟩ := findIdx_any_eq_some.mp hi
  rw [sameKey_iff] at hkey
  have hpair : (gone.station, gone.channel) = (station, channel) := by cases hkey; rfl
  have hstays {q : OverrideRule} (hq : some q ∈ s.rules) (hne : (q.station, q.channel) ≠ (station, channel)) :
      some q ∈ s.rules.set i none := by
    obtain ⟨j, hj⟩ := List.getElem?_of_mem hq
    refine mem_set_of_ne hj fun he => hne ?_
    rw [he, hgone] at hj
    cases hj
    exact hpair
  have hwas {q : OverrideRule} (hq : some q ∈ s.rules.set i none) : some q ∈ s.rules :=
    (mem_set_some hq).resolve_right (by simp)
  have hshape : (s.rules.set i none).length = 48 := (List.length_set ..).trans hs.shape.rules
  by_cases hn : ((s.rules.set i none).filterMap id).any (fun r => ruleNames r station channel) = true
  · rw [if_pos hn]
    obtain ⟨other, hother, hnames⟩ := List.any_eq_true.mp hn
    have hother : some other ∈ s.rules.set i none := by simpa using hother
    rw [ruleNames_iff] at hnames
    exact { hs with
      shape := { hs.shape with rules := hshape }
      rules := keysDistinct_set_none i hs.rules
      named := fun key => (hs.named key).trans ⟨fun ⟨q, hq, hk⟩ => by
          by_cases hp : (q.station, q.channel) = (station, channel)
          · exact ⟨other, hother, hnames.trans (hp.symm.trans hk)⟩
          · exact ⟨q, hstays hq hp, hk⟩,
        fun ⟨q, hq, hk⟩ => ⟨q, hwas hq, hk⟩⟩ }
  · rw [if_neg hn]
    have hnone {q : OverrideRule} (hq : some q ∈ s.rules.set i none) :
        (q.station, q.channel) ≠ (station, channel) := fun he =>
      hn (List.any_eq_true.mpr ⟨q, by simpa using hq, (ruleNames_iff q _ _).mpr he⟩)
    exact { hs with
      shape := { hs.shape with
        rules := hshape
        records := (List.length_map ..).trans hs.shape.records }
      rules := keysDistinct_set_none i hs.rules
      records := keysDistinct_of_le hs.records fun j r hr => (removeRecord_getElem?.mp hr).1
      named := fun key => by
        constructor
        · rintro ⟨r, hr, rfl⟩
          obtain ⟨hr, hk⟩ := mem_removeRecord.mp hr
          obtain ⟨q, hq, he⟩ := (hs.named (recordKey r)).mp ⟨r, hr, rfl⟩
          refine ⟨q, hstays hq fun hp => ?_, he⟩
          rw [(hasKey_iff r _ _).mpr (he.symm.trans hp)] at hk
          cases hk
        · rintro ⟨q, hq, rfl⟩
          obtain ⟨r, hr, hk⟩ := (hs.named _).mpr ⟨q, hwas hq, rfl⟩
          refine ⟨r, mem_removeRecord.mpr ⟨hr, ?_⟩, hk⟩
          by_contra hh
          exact hnone hq (hk.symm.trans ((hasKey_iff r _ _).mp (by simpa using hh))) }

theorem keysDistinct_replicate_none {α κ : Type} (key : α → κ) (n : Nat) :
    keysDistinct key (List.replicate n none) := by
  simp [keysDistinct_iff, List.getElem?_replicate]

theorem storeAtPowerOn_image {s : State} {law : ImageContents → Prop}
    (h : ∀ m, s.store.contents = some m → law m) : ∀ m, s.storeAtPowerOn.contents = some m → law m :=
  fun m hm => h m (storeAtPowerOn_contents hm)

theorem powerOnFallback_keysLaw {s : State} (straps : BitVec 5) (hs : s.KeysLaw) :
    (s.powerOnFallback straps).KeysLaw where
  shape :=
    { coils := List.length_replicate, points := List.length_replicate, rules := List.length_replicate
      records := List.length_replicate, heldLevels := List.length_replicate
      inputs := List.length_replicate, noticeCoils := List.length_replicate
      image := storeAtPowerOn_image hs.shape.image, writing := by rintro q ⟨⟩ }
  points := keysDistinct_replicate_none _ _
  duties := keysDistinct_replicate_none _ _
  owners e he := by cases (List.mem_replicate.mp he).2
  rules := keysDistinct_replicate_none _ _
  records := keysDistinct_replicate_none _ _
  named key := by
    constructor <;> rintro ⟨_, h, -⟩ <;> cases (List.mem_replicate.mp h).2
  image := storeAtPowerOn_image hs.image
  writing := by rintro q ⟨⟩

theorem poweredOn_keysLaw {s : State} (straps : BitVec 5) {image : ImageContents}
    (hshape : ImageShaped image) (hkeyed : ImageKeyed image) (hs : s.KeysLaw) :
    ((s.powerOnTables straps image).withRecords (rebuildRecords image.rules)).KeysLaw where
  shape :=
    { coils := (List.length_map ..).trans hshape.coils, points := (List.length_map ..).trans hshape.points
      rules := hshape.rules
      records := rebuildRecords_length _
      heldLevels := List.length_replicate, inputs := List.length_replicate
      noticeCoils := List.length_replicate
      image := storeAtPowerOn_image hs.shape.image, writing := by rintro q ⟨⟩ }
  points := keysDistinct_map.mpr hkeyed.points
  duties := keysDistinct_map.mpr hkeyed.duties
  owners e he := by
    obtain ⟨p, hp, rfl⟩ := mem_map_some he
    exact hkeyed.owners p hp
  rules := hkeyed.rules
  records := by
    unfold keysDistinct
    rw [State.withRecords_records, rebuildRecords_entries hshape.rules]
    exact builtRecords_nodup _
  named := rebuildRecords_named hshape.rules
  image := storeAtPowerOn_image hs.image
  writing := by rintro q ⟨⟩

theorem TableChange.keeps_keysLaw (s t : State) (h : TableChange s t) (hs : s.KeysLaw) : t.KeysLaw := by
  cases h with
  | runs h => exact h.keysLaw hs
  | pointLoaded hf hu hi => exact pointLoaded_keysLaw hf hu hi hs
  | pointCleared => exact pointCleared_keysLaw _ hs
  | ruleLoaded _ hi => exact ruleLoaded_keysLaw hi hs
  | ruleCleared hi => exact ruleCleared_keysLaw hi hs
  | relaySetLoaded _ => exact { hs with shape := { hs.shape with } }
  | commitTaken =>
    exact { hs with
      shape := { hs.shape with
        image := by rintro m ⟨⟩
        writing := by rintro q ⟨⟩; exact imageContents_shaped hs.shape }
      image := by rintro m ⟨⟩
      writing := by rintro q ⟨⟩; exact imageContents_keyed hs }
  | @commitEnded q success hq =>
    have himage {law : ImageContents → Prop} (h : law q.contents) :
        ∀ m, (if success then Store.written q.contents else Store.spoilt).contents = some m → law m := by
      cases success
      · rintro m ⟨⟩
      · rintro m ⟨⟩
        exact h
    exact { hs with
      shape := { hs.shape with
        image := himage (hs.shape.writing q hq)
        writing := by rintro q ⟨⟩ }
      image := himage (hs.writing q hq)
      writing := by rintro q ⟨⟩ }
  | @poweredOn straps image hp =>
    have hc := passing_contents hp
    exact poweredOn_keysLaw straps (hs.shape.image image hc) (hs.image image hc) hs
  | @fellBack straps => exact powerOnFallback_keysLaw straps hs

/-- Settles O55: every step is a chain of table changes, and each keeps the keys distinct and a record for
exactly the pairs that rules name. -/
theorem keysLawKeptByEveryStep : Obligations.KeysLawKeptByEveryStep :=
  keptByEveryStep_of_change TableChange.keeps_keysLaw

end Sys2Proof.Machine
end

section
/-! The argument bytes of management requests (R171, R179): what each field of a layout holds, and how a
request that is taken is answered. -/

namespace Sys2Proof.Machine

/-! ### Fields of a layout -/

theorem splitFields_length {ws : List Nat} {args : List Byte} {fields : List Nat}
    (h : splitFields ws args = some fields) :
    fields.length ≤ ws.length ∧ args.length = (ws.take fields.length).sum := by
  induction ws generalizing args fields with
  | nil =>
    cases args with
    | nil => cases h; simp
    | cons b bs => cases h
  | cons w ws ih =>
    cases args with
    | nil => cases h; simp
    | cons b bs =>
      unfold splitFields at h
      split at h
      · cases h
      · rename_i hw
        obtain ⟨rest, hrest, rfl⟩ := Option.map_eq_some_iff.mp h
        obtain ⟨h1, h2⟩ := ih hrest
        rw [List.length_drop] at h2
        refine ⟨by simpa using h1, ?_⟩
        simp only [List.length_cons, List.take_succ_cons, List.sum_cons] at h2 hw ⊢
        omega

/-- Field `i` is the number of the bytes of its width at its place. -/
theorem splitFields_field {ws : List Nat} {args : List Byte} {fields : List Nat}
    (h : splitFields ws args = some fields) {i : Nat} (hi : i < fields.length) :
    fields[i]? = some (beNat ((args.drop (ws.take i).sum).take (ws.getD i 0))) := by
  induction ws generalizing args fields i with
  | nil =>
    cases args with
    | nil => cases h; simp at hi
    | cons b bs => cases h
  | cons w ws ih =>
    cases args with
    | nil => cases h; simp at hi
    | cons b bs =>
      unfold splitFields at h
      split at h
      · cases h
      · obtain ⟨rest, hrest, rfl⟩ := Option.map_eq_some_iff.mp h
        cases i with
        | zero => simp
        | succ i =>
          simp only [List.length_cons, Nat.add_lt_add_iff_right] at hi
          simp [ih hrest hi]

theorem parseLayout_eq_some {ws : List Nat} {required : Nat} {args : List Byte} {fields : List Nat} :
    parseLayout ws required args = some fields ↔
      splitFields ws args = some fields ∧ required ≤ fields.length := by
  unfold parseLayout
  cases splitFields ws args with
  | none => simp
  | some f =>
    simp only [Option.some.injEq]
    split
    · rename_i hr
      simp only [reduceCtorEq, false_iff, not_and]
      rintro rfl
      omega
    · rename_i hr
      simp only [Option.some.injEq, iff_self_and]
      rintro rfl
      omega

/-- Arguments that are read end at a field boundary, as many fields on as are read. -/
theorem parseLayout_length {ws : List Nat} {required : Nat} {args : List Byte} {fields : List Nat}
    (h : parseLayout ws required args = some fields) :
    required ≤ fields.length ∧ fields.length ≤ ws.length ∧ args.length = (ws.take fields.length).sum := by
  obtain ⟨hs, hr⟩ := parseLayout_eq_some.mp h
  exact ⟨hr, splitFields_length hs⟩

theorem endsAtField_of_parseLayout {ws : List Nat} {required : Nat} {args : List Byte} {fields : List Nat}
    (h : parseLayout ws required args = some fields) : endsAtField ws required args :=
  ⟨fields.length, parseLayout_length h⟩

theorem beNat_singleton (b : Byte) : beNat [b] = b.toNat := by simp [beNat]

/-- A field of one byte is the argument at its place. -/
theorem fieldOr_byte {ws : List Nat} {required : Nat} {args : List Byte} {fields : List Nat}
    (h : parseLayout ws required args = some fields) {i j d : Nat} (hi : i < fields.length)
    (hw : ws.getD i 0 = 1) (hj : (ws.take i).sum = j) : fieldOr fields i d = argument args j := by
  have hf := splitFields_field (parseLayout_eq_some.mp h).1 hi
  rw [hw, hj] at hf
  rw [fieldOr, List.getD_eq_getElem?_getD, hf, Option.getD_some, argument, List.getD_eq_getElem?_getD]
  cases hd : args.drop j with
  | nil =>
    rw [List.getElem?_eq_none (List.drop_eq_nil_iff.mp hd)]
    rfl
  | cons b rest =>
    have hb : args[j]? = some b := by
      have := congrArg (fun l => l[0]?) hd
      simpa using this
    rw [hb]
    exact beNat_singleton b

/-- A field followed by others is read off the front. -/
theorem splitFields_append {w : Nat} {ws : List Nat} {bytes rest : List Byte} (hw : bytes.length = w)
    (h0 : 0 < w) : splitFields (w :: ws) (bytes ++ rest) =
      (splitFields ws rest).map (beNat bytes :: ·) := by
  subst hw
  cases bytes with
  | nil => cases h0
  | cons b bs =>
    rw [List.cons_append, splitFields, if_neg (by simp)]
    simp

/-! ### Numbers in bytes -/

theorem toNat_byte {n : Nat} (h : n < 256) : (BitVec.ofNat 8 n).toNat = n := by
  rw [BitVec.toNat_ofNat]; omega

theorem beNat_pair (a b : Byte) : beNat [a, b] = 256 * a.toNat + b.toNat := by
  simp [beNat]; omega

theorem beNat_byteOf {n : Nat} (h : n < 256) : beNat (byteOf n) = n := by
  rw [byteOf, beNat_singleton, toNat_byte h]

theorem beNat_be16 {n : Nat} (h : n < 65536) : beNat (be16 n) = n := by
  rw [be16, beNat_pair, BitVec.toNat_ofNat, BitVec.toNat_ofNat]
  omega

theorem beNat_be32 {n : Nat} (h : n < 4294967296) : beNat (be32 n) = n := by
  simp only [be32, be16, beNat, List.cons_append, List.nil_append, List.foldl_cons, List.foldl_nil,
    BitVec.toNat_ofNat]
  omega

theorem be16s_number {z : Int} : (z % 65536).toNat < 65536 := by omega

theorem beNat_be16s (z : Int) : beNat (be16s z) = (z % 65536).toNat := beNat_be16 be16s_number

section Encodings
variable {ws : List Nat} {rest : List Byte}

theorem splitFields_byteOf {n : Nat} (h : n < 256) :
    splitFields (1 :: ws) (byteOf n ++ rest) = (splitFields ws rest).map (n :: ·) := by
  rw [splitFields_append (w := 1) rfl (by omega), beNat_byteOf h]

theorem splitFields_be16 {n : Nat} (h : n < 65536) :
    splitFields (2 :: ws) (be16 n ++ rest) = (splitFields ws rest).map (n :: ·) := by
  rw [splitFields_append (w := 2) rfl (by omega), beNat_be16 h]

theorem splitFields_be32 {n : Nat} (h : n < 4294967296) :
    splitFields (4 :: ws) (be32 n ++ rest) = (splitFields ws rest).map (n :: ·) := by
  rw [splitFields_append (w := 4) rfl (by omega), beNat_be32 h]

theorem splitFields_be16s (z : Int) :
    splitFields (2 :: ws) (be16s z ++ rest) = (splitFields ws rest).map ((z % 65536).toNat :: ·) := by
  rw [splitFields_append (w := 2) rfl (by omega), beNat_be16s]

end Encodings

theorem signed16_be16s {z : Int} (h1 : -32768 ≤ z) (h2 : z < 32768) : signed16 (z % 65536).toNat = z := by
  unfold signed16
  split <;> omega

theorem coilOf_val (c : CoilId) : coilOf c.val = some c := by simp [coilOf, c.isLt]

theorem coilOf_eq_none {n : Nat} (h : 16 ≤ n) : coilOf n = none := by simp [coilOf]; omega

/-! ### How a request that is taken is answered -/

section Answers
variable {s : State}

/-- A request served with a plain reply: the state it leaves, its reply at the end of the fill order. -/
theorem takeAdmin_answered {src code : Byte} {gated : Bool} {serve : State → Served} {t : State}
    {r : ResultCode} {data : List Byte} (h : s.trunkOut.canReserve = true) (h1 : s.restartPending = false)
    (h2 : gated = false ∨ s.commit = none)
    (hserve : serve s.reservePlace = { state := t.reservePlace, result := some r, data := data, role := .plain })
    (hstraps : t.straps = s.straps) : s.takeAdmin src code gated serve = t.replied src code r.code data := by
  have ha : s.ownAddress = t.ownAddress := by rw [State.ownAddress, State.ownAddress, hstraps]
  rw [State.takeAdmin_served s src code gated serve h h1 h2, hserve]
  simp only [State.reservePlace_fillReserved]
  rw [State.replied, TrunkOut.adding, State.replyTo, State.adminReply, ha]

theorem takeAdmin_accepted {src code : Byte} {gated : Bool} {serve : State → Served} {t : State}
    {clamped : Bool} (hs : s.takesRequests)
    (hserve : serve s.reservePlace = Served.accept t.reservePlace clamped)
    (hstraps : t.straps = s.straps) :
    s.takeAdmin src code gated serve = t.replied src code (acceptedIf clamped).code [] :=
  takeAdmin_answered hs.1 hs.2.1 (Or.inr hs.2.2) hserve hstraps

theorem takeAdmin_refused {src code : Byte} {gated : Bool} {serve : State → Served} {r : ResultCode}
    (hs : s.takesRequests) (hserve : serve s.reservePlace = Served.refuse s.reservePlace r) :
    s.takeAdmin src code gated serve = s.replied src code r.code [] :=
  takeAdmin_answered hs.1 hs.2.1 (Or.inr hs.2.2) hserve rfl

/-- The result code of a load: ACCEPTED unless clamping changed something. -/
theorem acceptedIf_code {p q : Prop} [Decidable p] [Decidable q] (h : p ↔ ¬ q) :
    (acceptedIf (decide p)).code = acceptedCode q := by
  unfold acceptedCode
  by_cases hq : q
  · have hp : ¬ p := fun hp => h.mp hp hq
    simp [hp, hq, acceptedIf, ResultCode.code]
  · have hp : p := h.mpr hq
    simp [hp, hq, acceptedIf, ResultCode.code]

end Answers

theorem clampInt_within {lo hi : Int} (h : lo ≤ hi) (z : Int) : clampInt lo hi z = within lo hi z :=
  clampInt_eq h z

theorem clampNat_withinNat {lo hi : Nat} (h : lo ≤ hi) (n : Nat) : clampNat lo hi n = withinNat lo hi n :=
  clampNat_eq h n

end Sys2Proof.Machine
end

section
/-! LOAD-RELAY-SET (O36) and CLEAR-POINT (O33). -/

namespace Sys2Proof.Machine

/-! ### LOAD-RELAY-SET (R16) -/

theorem toNat_injective (n : Nat) : Function.Injective (BitVec.toNat : BitVec n → Nat) :=
  fun _ _ h => BitVec.eq_of_toNat_eq h

/-- Settles O36: the three tests of LOAD-RELAY-SET are those of R16. -/
theorem loadRelaySetReplacesTheSet : Obligations.LoadRelaySetReplacesTheSet := by
  intro s src args hs
  have hnodup : (args.map BitVec.toNat).Nodup ↔ args.Nodup := List.nodup_map_iff (toNat_injective 8)
  have hstations : (args.map BitVec.toNat).all isStation = true ↔ ∀ a ∈ args, 1 ≤ a.toNat ∧ a.toNat ≤ 199 := by
    simp [isStation_iff]
  have htests : ((args.map BitVec.toNat).length ≤ Config.relaySetCapacity ∧
      (args.map BitVec.toNat).all isStation = true ∧ (args.map BitVec.toNat).Nodup) ↔
      args.length ≤ 32 ∧ (∀ a ∈ args, 1 ≤ a.toNat ∧ a.toNat ≤ 199) ∧ args.Nodup := by
    rw [hnodup, hstations, List.length_map]
  constructor
  · intro hlen hst hd
    refine congrArg Host.Outcome.next (takeAdmin_accepted (t := s.withRelaySet (args.map BitVec.toNat))
      (clamped := false) hs ?_ rfl)
    unfold serveLoadRelaySet
    rw [if_pos (htests.mpr ⟨hlen, hst, hd⟩)]
    rfl
  · intro hbad
    refine congrArg Host.Outcome.next (takeAdmin_refused (r := .malformed) hs ?_)
    unfold serveLoadRelaySet
    rw [if_neg]
    rw [htests]
    rintro ⟨hlen, hst, hd⟩
    rcases hbad with h | ⟨a, ha, h⟩ | h
    · omega
    · have := hst a ha
      omega
    · exact h hd

/-! ### CLEAR-POINT (R10) -/

section Points
variable {s : State} {p : PointConfig}

theorem hasKey_iff_sameKeyAs (e : PointEntry) : e.hasKey p.station p.channel = true ↔ sameKeyAs p e := by
  simp [PointEntry.hasKey, sameKeyAs]

theorem ownerOffline_iff (o : Owner) : s.ownerOffline o = true ↔ ownerRests s o := by
  cases o <;> simp [State.ownerOffline, ownerRests]

theorem pointIndex_eq_some {i : Nat} {e : PointEntry} (hi : s.points[i]? = some (some e))
    (hk : sameKeyAs p e) (hl : ∀ j e', j < i → s.points[j]? = some (some e') → ¬ sameKeyAs p e') :
    pointIndex s.points p.station p.channel = some i :=
  findIdx_any_eq_some.mpr ⟨⟨e, hi, (hasKey_iff_sameKeyAs e).mpr hk⟩, fun j e' hj he' => by
    rw [Bool.eq_false_iff, ne_eq, hasKey_iff_sameKeyAs]
    exact hl j e' hj he'⟩

theorem pointIndex_eq_none (h : ∀ e, some e ∈ s.points → ¬ sameKeyAs p e) :
    pointIndex s.points p.station p.channel = none :=
  findIdx_any_eq_none.mpr fun e he => by
    rw [Bool.eq_false_iff, ne_eq, hasKey_iff_sameKeyAs]
    exact h e he

/-- The gate of R4 on the entry that holds a key asks whether its owner rests. -/
theorem keyGateOpen_held {i : Nat} {e : PointEntry} (hi : s.points[i]? = some (some e))
    (hk : sameKeyAs p e) (hl : ∀ j e', j < i → s.points[j]? = some (some e') → ¬ sameKeyAs p e') :
    s.keyGateOpen p.station p.channel = true ↔ ownerRests s e.cfg.owner := by
  unfold State.keyGateOpen
  rw [pointIndex_eq_some hi hk hl]
  simp only [entryAt_eq_some.mpr hi]
  exact ownerOffline_iff _

theorem keyGateOpen_free (h : ∀ e, some e ∈ s.points → ¬ sameKeyAs p e) :
    s.keyGateOpen p.station p.channel = true := by
  unfold State.keyGateOpen
  rw [pointIndex_eq_none h]

end Points

theorem parseTwoBytes (a b : Byte) : parseLayout [1, 1] 2 [a, b] = some [a.toNat, b.toNat] := by
  simp [parseLayout, splitFields, beNat]

/-- CLEAR-POINT with a key in its sets, by what the table holds (R4, R10). -/
theorem serveClearPoint_key {p : PointConfig} (hst : 1 ≤ p.station ∧ p.station ≤ 199) (hch : p.channel ≤ 63)
    (s : State) : serveClearPoint [BitVec.ofNat 8 p.station, BitVec.ofNat 8 p.channel] s.reservePlace =
      if s.keyGateOpen p.station p.channel = true then
        match pointIndex s.points p.station p.channel with
        | none => .accept s.reservePlace false
        | some i => .accept (s.withPoints (s.points.set i none)).reservePlace false
      else .refuse s.reservePlace .state := by
  unfold serveClearPoint
  rw [parseTwoBytes, toNat_byte (by omega), toNat_byte (by omega), ← ite_not]
  dsimp only
  rw [if_neg (not_not.mpr ⟨(isStation_iff _).mpr hst, (isChannel_iff _).mpr hch⟩)]
  rfl

theorem serveClearPoint_malformed {args : List Byte} (u : State)
    (h : args.length ≠ 2 ∨ ¬ argumentIsStation args 0 ∨ 64 ≤ argument args 1) :
    serveClearPoint args u = .refuse u .malformed := by
  unfold serveClearPoint
  split
  · rename_i station channel hp
    have hlen := (parseLayout_length hp).2.2
    have h0 : station = argument args 0 := fieldOr_byte (d := 0) hp (i := 0) (by simp) rfl rfl
    have h1 : channel = argument args 1 := fieldOr_byte (d := 0) hp (i := 1) (by simp) rfl rfl
    subst h0 h1
    rw [if_pos]
    rintro ⟨hst, hch⟩
    rcases h with h | h | h
    · exact h hlen
    · exact h ((isStation_iff _).mp hst)
    · have := (isChannel_iff _).mp hch
      omega
  · rfl

/-- Settles O33: CLEAR-POINT by whether an entry has its key and whether the owner of that entry rests. -/
theorem clearPointFreesItsIndex : Obligations.ClearPointFreesItsIndex := by
  intro s src p hs hp
  refine ⟨fun i e hi hk hl => ⟨fun hr => ?_, fun hr => ?_⟩, fun hfree => ?_, fun args hbad => ?_⟩
  · refine congrArg Host.Outcome.next (takeAdmin_accepted (t := s.withPoints (s.points.set i none))
      (clamped := false) hs ?_ rfl)
    rw [serveClearPoint_key hp.station hp.channel, if_pos ((keyGateOpen_held hi hk hl).mpr hr),
      pointIndex_eq_some hi hk hl]
  · refine congrArg Host.Outcome.next (takeAdmin_refused (r := .state) hs ?_)
    rw [serveClearPoint_key hp.station hp.channel, if_neg (mt (keyGateOpen_held hi hk hl).mp hr)]
  · refine congrArg Host.Outcome.next (takeAdmin_accepted (t := s) (clamped := false) hs ?_ rfl)
    rw [serveClearPoint_key hp.station hp.channel, if_pos (keyGateOpen_free hfree), pointIndex_eq_none hfree]
  · exact congrArg Host.Outcome.next
      (takeAdmin_refused (r := .malformed) hs (serveClearPoint_malformed _ hbad))

end Sys2Proof.Machine
end

section
/-! LOAD-POINT (O32). -/

namespace Sys2Proof.Machine

/-! ### The bytes of a LOAD-POINT -/

/-- The layout of LOAD-POINT (R179). -/
abbrev pointWidths : List Nat := [1, 1, 1, 1, 2, 2, 2]

/-- The point that argument bytes ask for (R171, R179). -/
def askedPoint (args : List Byte) : Option PointConfig := (parseLayout pointWidths 5 args).bind requestedPoint

theorem serveLoadPoint_congr {args args' : List Byte} (h : askedPoint args = askedPoint args') :
    serveLoadPoint args = serveLoadPoint args' := by
  funext u
  unfold askedPoint at h
  unfold serveLoadPoint
  rw [h]

theorem ownerOf_ownerCode (o : Owner) : ownerOf (ownerCode o) = some o := by
  cases o with
  | coil c =>
    have := c.isLt
    rw [ownerOf, ownerCode, if_neg (by omega), coilOf_val]
    rfl
  | plant => rfl

theorem ownerCode_lt (o : Owner) : ownerCode o < 256 := by
  cases o with
  | coil c => have := c.isLt; show c.val < 256; omega
  | plant => show 16 < 256; omega

theorem roleCode_lt {r : Role} (h : ∀ i, r = .face i → 1 ≤ i ∧ i ≤ 6) : roleCode r < 256 := by
  cases r with
  | face i => have := h i rfl; show i < 256; omega
  | water => show 7 < 256; omega
  | oat => show 8 < 256; omega

theorem roleOf_roleCode {r : Role} (h : ∀ i, r = .face i → 1 ≤ i ∧ i ≤ 6) : roleOf (roleCode r) = some r := by
  cases r with
  | face i => rw [roleOf, roleCode, if_pos (h i rfl)]
  | water => rfl
  | oat => rfl

section
variable {p : PointConfig} (hp : PointRequest p)
include hp

theorem pointRequest_ownerFits : ownerFitsRole p.owner p.role = true := by
  rcases hp.agree with ⟨c, ho, hr⟩ | ⟨ho, hr⟩
  · rw [ho]
    cases hrole : p.role with
    | face i => rfl
    | water => rfl
    | oat => exact absurd hrole hr
  · rw [ho, hr]; rfl

/-- The identifiers of a LOAD-POINT read back; offset, max_age and poll_interval as its further fields say. -/
theorem requestedPoint_eq (numbers : List Nat) (ho : signed16 (numbers.getD 0 0) = p.offset)
    (hm : numbers.getD 1 60 = p.maxAge) (hi : numbers.getD 2 0 = p.pollInterval) :
    requestedPoint (p.station :: p.channel :: ownerCode p.owner :: roleCode p.role :: numbers) = some p := by
  simp only [requestedPoint, fieldOr, List.getD_cons_zero, List.getD_cons_succ,
    ownerOf_ownerCode, roleOf_roleCode hp.face, ho, hm, hi]
  rw [if_pos]
  simp [isStation_iff, isChannel_iff, pointRequest_ownerFits hp, hp.station, hp.channel]

theorem parseLayout_point (numbers : List Byte) (ws : List Nat) (fields : List Nat)
    (h : splitFields ws numbers = some fields) (hf : 1 ≤ fields.length) :
    parseLayout (1 :: 1 :: 1 :: 1 :: ws) 5 ([BitVec.ofNat 8 p.station, BitVec.ofNat 8 p.channel,
      BitVec.ofNat 8 (ownerCode p.owner), BitVec.ofNat 8 (roleCode p.role)] ++ numbers) =
      some (p.station :: p.channel :: ownerCode p.owner :: roleCode p.role :: fields) := by
  obtain ⟨-, hst⟩ := hp.station
  have hch := hp.channel
  rw [parseLayout_eq_some]
  refine ⟨?_, by simp only [List.length_cons]; omega⟩
  simp only [splitFields, List.cons_append, List.nil_append, List.length_cons, List.take_succ_cons,
    List.take_zero, List.drop_succ_cons, List.drop_zero, h, beNat_singleton, Option.map_some,
    toNat_byte (ownerCode_lt p.owner), toNat_byte (roleCode_lt hp.face)]
  rw [toNat_byte (by omega), toNat_byte (by omega)]
  simp

theorem askedPoint_pointArgs : askedPoint (pointArgs p) = some p := by
  obtain ⟨ho1, ho2, hm, hi⟩ := hp.numbers
  have hsplit : splitFields [2, 2, 2] (be16s p.offset ++ (be16 p.maxAge ++ (be16 p.pollInterval ++ []))) =
      some [(p.offset % 65536).toNat, p.maxAge, p.pollInterval] := by
    rw [splitFields_be16s, splitFields_be16 hm, splitFields_be16 hi]
    rfl
  unfold askedPoint pointArgs
  rw [List.append_assoc, List.append_assoc, ← List.append_nil (be16 p.pollInterval),
    parseLayout_point hp _ _ _ hsplit (by simp)]
  exact requestedPoint_eq hp _ (signed16_be16s ho1 ho2) rfl rfl

theorem askedPoint_take8 (hi : p.pollInterval = 0) : askedPoint ((pointArgs p).take 8) = some p := by
  obtain ⟨ho1, ho2, hm, -⟩ := hp.numbers
  have hsplit : splitFields [2, 2, 2] (be16s p.offset ++ (be16 p.maxAge ++ [])) =
      some [(p.offset % 65536).toNat, p.maxAge] := by
    rw [splitFields_be16s, splitFields_be16 hm]
    rfl
  exact (congrArg (Option.bind · requestedPoint) (parseLayout_point hp _ _ _ hsplit (by simp))).trans
    (requestedPoint_eq hp _ (signed16_be16s ho1 ho2) rfl hi.symm)

theorem askedPoint_take6 (hm : p.maxAge = 60) (hi : p.pollInterval = 0) :
    askedPoint ((pointArgs p).take 6) = some p := by
  obtain ⟨ho1, ho2, -, -⟩ := hp.numbers
  have hsplit : splitFields [2, 2, 2] (be16s p.offset ++ []) = some [(p.offset % 65536).toNat] := by
    rw [splitFields_be16s]
    rfl
  exact (congrArg (Option.bind · requestedPoint) (parseLayout_point hp _ _ _ hsplit (by simp))).trans
    (requestedPoint_eq hp _ (signed16_be16s ho1 ho2) hm.symm hi.symm)

end

/-- What a point that is asked for says of its first four arguments (R6, R179). -/
theorem requestedPoint_identifiers {f : List Nat} {req : PointConfig} (h : requestedPoint f = some req) :
    (1 ≤ fieldOr f 0 0 ∧ fieldOr f 0 0 ≤ 199) ∧ fieldOr f 1 255 ≤ 63 ∧ fieldOr f 2 255 ≤ 16 ∧
    (1 ≤ fieldOr f 3 255 ∧ fieldOr f 3 255 ≤ 8) ∧ (fieldOr f 2 255 = 16 ↔ fieldOr f 3 255 = 8) := by
  unfold requestedPoint at h
  split at h
  · rename_i owner role ho hr
    split at h
    · rename_i hok
      simp only [Bool.and_eq_true, isStation_iff, isChannel_iff] at hok
      obtain ⟨⟨hst, hch⟩, hfit⟩ := hok
      have howner : (owner = .plant ∧ fieldOr f 2 255 = 16) ∨ (∃ c, owner = .coil c ∧ fieldOr f 2 255 < 16) := by
        unfold ownerOf at ho
        split at ho
        · cases ho; exact Or.inl ⟨rfl, by assumption⟩
        · unfold coilOf at ho
          split at ho
          · cases ho; exact Or.inr ⟨_, rfl, by assumption⟩
          · cases ho
      have hrole : (role = .oat ∧ fieldOr f 3 255 = 8) ∨
          (role ≠ .oat ∧ 1 ≤ fieldOr f 3 255 ∧ fieldOr f 3 255 ≤ 7) := by
        unfold roleOf at hr
        split at hr
        · cases hr; exact Or.inr ⟨by simp, by omega⟩
        · split at hr
          · cases hr; exact Or.inr ⟨by simp, by omega⟩
          · split at hr
            · cases hr; exact Or.inl ⟨rfl, by assumption⟩
            · cases hr
      refine ⟨hst, hch, ?_⟩
      rcases howner with ⟨rfl, h2⟩ | ⟨c, rfl, h2⟩ <;> rcases hrole with ⟨rfl, h3⟩ | ⟨hn, h3⟩
      · omega
      · cases role <;> simp [ownerFitsRole] at hfit hn
      · cases hfit
      · omega
    · cases h
  · cases h

theorem askedPoint_malformed {args : List Byte}
    (h : ¬ endsAtField pointWidths 5 args ∨ ¬ argumentIsStation args 0 ∨ 64 ≤ argument args 1 ∨
      17 ≤ argument args 2 ∨ argument args 3 = 0 ∨ 9 ≤ argument args 3 ∨
      ¬ (argument args 2 = 16 ↔ argument args 3 = 8)) : askedPoint args = none := by
  unfold askedPoint
  cases hp : parseLayout pointWidths 5 args with
  | none => rfl
  | some fields =>
    have hlen := (parseLayout_length hp).1
    rw [Option.bind_some, Option.eq_none_iff_forall_ne_some]
    intro req hreq
    have hid := requestedPoint_identifiers hreq
    rw [fieldOr_byte hp (i := 0) (j := 0) (by omega) rfl rfl,
      fieldOr_byte hp (i := 1) (j := 1) (by omega) rfl rfl,
      fieldOr_byte hp (i := 2) (j := 2) (by omega) rfl rfl,
      fieldOr_byte hp (i := 3) (j := 3) (by omega) rfl rfl] at hid
    unfold argumentIsStation at h
    rcases h with h | h
    · exact h (endsAtField_of_parseLayout hp)
    · omega

/-! ### What LOAD-POINT does -/

section
variable {s : State} {p : PointConfig}

theorem clampPoint_eq_stored (p : PointConfig) : clampPoint p = storedPoint p := by
  simp only [clampPoint, storedPoint, clampPollInterval]
  rw [clampInt_within (by omega), clampNat_withinNat (by omega), clampNat_withinNat (by omega)]

theorem startEntry_eq_fresh (p : PointConfig) (clock : Nat) : startEntry p clock = freshEntry p clock := by
  simp [startEntry, startRuntime, freshEntry, bne, Bool.beq_eq_decide_eq]

theorem breaksUniqueness_iff : s.breaksUniqueness p = true ↔
    ¬ ∀ e, some e ∈ s.points → ¬ sameKeyAs p e → e.cfg.owner = p.owner → e.cfg.role ≠ p.role := by
  simp only [State.breaksUniqueness, List.any_eq_true, mem_entries, Bool.and_eq_true, Bool.not_eq_true',
    Bool.eq_false_iff, ne_eq, hasKey_iff_sameKeyAs, beq_iff_eq, not_forall, not_not, exists_prop, and_assoc]

theorem keyGateOpen_of_all (h : ∀ e, some e ∈ s.points → sameKeyAs p e → ownerRests s e.cfg.owner) :
    s.keyGateOpen p.station p.channel = true := by
  unfold State.keyGateOpen
  split
  · rfl
  · rename_i i hi
    obtain ⟨⟨e, he, hk⟩, -⟩ := findIdx_any_eq_some.mp hi
    rw [entryAt_eq_some.mpr he]
    exact (ownerOffline_iff _).mpr (h e (List.mem_of_getElem? he) ((hasKey_iff_sameKeyAs e).mp hk))

/-- LOAD-POINT of a point that may be asked for, by its gate, its uniqueness and its index (R4, R8, R9). -/
theorem serveLoadPoint_asked {args : List Byte} (hargs : askedPoint args = some p) (s : State) :
    serveLoadPoint args s.reservePlace =
      if s.ownerOffline p.owner = true ∧ s.keyGateOpen p.station p.channel = true then
        if s.breaksUniqueness p = true then .refuse s.reservePlace .duplicate
        else
          match placeIndex (pointIndex s.points p.station p.channel) s.points with
          | none => .refuse s.reservePlace .full
          | some i =>
            .accept (s.withPoints (s.points.set i (some (freshEntry (storedPoint p) s.plantClock)))).reservePlace
              (decide (clampPoint p ≠ p))
      else .refuse s.reservePlace .state := by
  unfold askedPoint at hargs
  unfold serveLoadPoint
  rw [hargs, ← ite_not]
  simp only [← startEntry_eq_fresh, ← clampPoint_eq_stored]
  rfl

end

/-- Settles O32: LOAD-POINT by the key, the gate and the uniqueness of the point asked for. -/
theorem loadPointPlacesItsEntry : Obligations.LoadPointPlacesItsEntry := by
  intro s src p hs hp gate unique loaded
  have hasked := serveLoadPoint_asked (askedPoint_pointArgs hp) s
  have hgate (h : gate) : s.ownerOffline p.owner = true ∧ s.keyGateOpen p.station p.channel = true :=
    ⟨(ownerOffline_iff _).mpr h.1, keyGateOpen_of_all h.2⟩
  have hunique (h : unique) : ¬ s.breaksUniqueness p = true := fun hb => breaksUniqueness_iff.mp hb h
  have hloaded {i : Nat} (hg : gate) (hu : unique)
      (hi : placeIndex (pointIndex s.points p.station p.channel) s.points = some i) :
      exec (.loadPoint src (pointArgs p)) s = .next (loaded i) := by
    refine congrArg Host.Outcome.next ((takeAdmin_accepted
      (t := s.withPoints (s.points.set i (some (freshEntry (storedPoint p) s.plantClock))))
      (clamped := decide (clampPoint p ≠ p)) hs ?_ rfl).trans ?_)
    · rw [hasked, if_pos (hgate hg), if_neg (hunique hu), hi]
    · rw [acceptedIf_code (q := storedPoint p = p) (by rw [clampPoint_eq_stored])]
      rfl
  have hstate (h : ¬ (s.ownerOffline p.owner = true ∧ s.keyGateOpen p.station p.channel = true)) :
      exec (.loadPoint src (pointArgs p)) s = .next (s.replied src 0x02#8 0x10#8 []) :=
    congrArg Host.Outcome.next (takeAdmin_refused (r := .state) hs (by rw [hasked, if_neg h]))
  have hsame {args : List Byte} (h : askedPoint args = some p) :
      exec (.loadPoint src args) s = exec (.loadPoint src (pointArgs p)) s := by
    have := serveLoadPoint_congr (h.trans (askedPoint_pointArgs hp).symm)
    simp only [exec, execLoadPoint, State.adminLoadPoint, this]
  refine ⟨fun i e hg hu hi hk hl => ?_, fun hfree hg hu => ⟨fun i hi hl => ?_, fun hfull => ?_⟩,
    fun hg hu => ?_, fun ho => ?_, fun i e hi hk hl ho => ?_, fun hm hi => ?_, fun hi => ?_, fun args hbad => ?_⟩
  · exact hloaded hg hu (by rw [pointIndex_eq_some hi hk hl]; rfl)
  · exact hloaded hg hu (by rw [pointIndex_eq_none hfree]; exact lowestFree_eq_some.mpr ⟨hi, hl⟩)
  · refine congrArg Host.Outcome.next (takeAdmin_refused (r := .full) hs ?_)
    rw [hasked, if_pos (hgate hg), if_neg (hunique hu), pointIndex_eq_none hfree, placeIndex,
      lowestFree_eq_none.mpr hfull]
  · refine congrArg Host.Outcome.next (takeAdmin_refused (r := .duplicate) hs ?_)
    rw [hasked, if_pos (hgate hg), if_pos (breaksUniqueness_iff.mpr hu)]
  · exact hstate fun h => ho ((ownerOffline_iff _).mp h.1)
  · exact hstate fun h => ho ((keyGateOpen_held hi hk hl).mp h.2)
  · exact hsame (askedPoint_take6 hp hm hi)
  · exact hsame (askedPoint_take8 hp hi)
  · refine congrArg Host.Outcome.next (takeAdmin_refused (r := .malformed) hs ?_)
    have hnone := askedPoint_malformed hbad
    unfold askedPoint at hnone
    unfold serveLoadPoint
    rw [hnone]

end Sys2Proof.Machine
end

section
/-! LOAD-COIL (O31). -/

namespace Sys2Proof.Machine

/-! ### The bytes of a configuration block -/

/-- The numbers in the fields of a configuration block (R179). -/
def blockNumbers (k : CoilConfig) : List Nat :=
  [k.faceQuorum, (k.airLimit % 65536).toNat, (k.waterLimit % 65536).toNat, (k.watchBand % 65536).toNat,
    (k.guardBand % 65536).toNat, k.hysteresis.toNat, (k.hardBand % 65536).toNat, k.tripDose, k.leak,
    k.lookahead, (k.degradeMargin % 65536).toNat, k.watchDwell, k.guardDwell, k.startupHold,
    k.autoReset.getD 0, k.lockoutCount, k.lockoutWindow, k.blindTripTime, (k.blindTripOat % 65536).toNat,
    (k.coldWeatherOat.getD (-32768) % 65536).toNat, contactCode k.contact,
    bitIf k.drivesTripLine 1 + bitIf k.followsPlantTrip 2]

theorem contactCode_lt (r : Option ContactRef) : contactCode r < 256 := by
  cases r with
  | none => show 255 < 256; omega
  | some r =>
    have := r.input.isLt
    cases hp : r.polarity <;> simp only [contactCode, hp] <;> omega

theorem contactOf_low {i : Nat} (hi : i < 16) :
    contactOf i = some (some { input := ⟨i, hi⟩, polarity := .openCold }) := by
  unfold contactOf
  rw [if_neg (by omega), if_pos (by omega)]
  simp [Nat.mod_eq_of_lt hi, hi]

theorem contactOf_high {i : Nat} (hi : i < 16) :
    contactOf (i + 16) = some (some { input := ⟨i, hi⟩, polarity := .closedCold }) := by
  unfold contactOf
  rw [if_neg (by omega), if_pos (by omega)]
  simp [Nat.mod_eq_of_lt hi]

theorem contactOf_contactCode (r : Option ContactRef) : contactOf (contactCode r) = some r := by
  cases r with
  | none => rfl
  | some r =>
    obtain ⟨⟨i, hi⟩, polarity⟩ := r
    cases polarity
    · exact contactOf_low hi
    · exact contactOf_high hi

theorem bitIf_flags_lt (a b : Bool) : bitIf a 1 + bitIf b 2 < 4 := by
  cases a <;> cases b <;> decide

/-- A configuration block, field by field. -/
theorem configBlock_fields (k : CoilConfig) : configBlock k false = byteOf k.faceQuorum ++
    (be16s k.airLimit ++ (be16s k.waterLimit ++ (be16s k.watchBand ++ (be16s k.guardBand ++
    (byteOf k.hysteresis.toNat ++ (be16s k.hardBand ++ (be16 k.tripDose ++ (be16 k.leak ++
    (be16 k.lookahead ++ (be16s k.degradeMargin ++ (be16 k.watchDwell ++ (be16 k.guardDwell ++
    (be16 k.startupHold ++ (be16 (k.autoReset.getD 0) ++ (byteOf k.lockoutCount ++ (be32 k.lockoutWindow ++
    (be16 k.blindTripTime ++ (be16s k.blindTripOat ++ (be16s (k.coldWeatherOat.getD (-32768)) ++
    (byteOf (contactCode k.contact) ++
    (byteOf (bitIf k.drivesTripLine 1 + bitIf k.followsPlantTrip 2) ++ []))))))))))))))))))))) := by
  rw [List.append_nil]
  unfold configBlock
  simp only [List.append_assoc]
  rw [show bitIf false 16 = 0 from rfl, Nat.add_zero]

theorem splitFields_configBlock {k : CoilConfig} (h : FitsBlock k) :
    splitFields configWidths (configBlock k false) = some (blockNumbers k) := by
  obtain ⟨hq, hl, hy0, hy⟩ := h.bytes
  have hcounts := h.counts
  simp only [List.mem_cons, List.not_mem_nil, or_false, forall_eq_or_imp, forall_eq] at hcounts
  obtain ⟨hdose, hleak, hlook, hwd, hgd, hsh, hbt⟩ := hcounts
  have hreset : k.autoReset.getD 0 < 65536 := by
    cases hr : k.autoReset with
    | none => simp
    | some n => exact (h.autoReset n hr).2
  have hflags := bitIf_flags_lt k.drivesTripLine k.followsPlantTrip
  rw [configBlock_fields, configWidths, splitFields_byteOf hq, splitFields_be16s, splitFields_be16s, splitFields_be16s,
    splitFields_be16s, splitFields_byteOf (by omega), splitFields_be16s, splitFields_be16 hdose,
    splitFields_be16 hleak, splitFields_be16 hlook, splitFields_be16s, splitFields_be16 hwd,
    splitFields_be16 hgd, splitFields_be16 hsh, splitFields_be16 hreset, splitFields_byteOf hl,
    splitFields_be32 h.window, splitFields_be16 hbt, splitFields_be16s, splitFields_be16s,
    splitFields_byteOf (contactCode_lt _), splitFields_byteOf (by omega)]
  rfl

theorem flags_low (a b : Bool) : ((bitIf a 1 + bitIf b 2) % 2 == 1) = a := by
  cases a <;> cases b <;> rfl

theorem flags_high (a b : Bool) : ((bitIf a 1 + bitIf b 2) / 2 == 1) = b := by
  cases a <;> cases b <;> rfl

theorem requestedConfig_blockNumbers {k : CoilConfig} (h : FitsBlock k) :
    requestedConfig (blockNumbers k) = some k := by
  have htemps := h.temperatures
  simp only [List.mem_cons, List.not_mem_nil, or_false, forall_eq_or_imp, forall_eq] at htemps
  obtain ⟨hair, hwater, hwatch, hguard, hhard, hdeg, hoat⟩ := htemps
  obtain ⟨-, -, hy0, hy⟩ := h.bytes
  have hreset : (if k.autoReset.getD 0 = 0 then none else some (k.autoReset.getD 0)) = k.autoReset := by
    cases hr : k.autoReset with
    | none => rfl
    | some n =>
      have := (h.autoReset n hr).1
      rw [Option.getD_some, if_neg (by omega)]
  have hcold : (if signed16 (k.coldWeatherOat.getD (-32768) % 65536).toNat = -32768 then none
      else some (signed16 (k.coldWeatherOat.getD (-32768) % 65536).toNat)) = k.coldWeatherOat := by
    cases hr : k.coldWeatherOat with
    | none => rfl
    | some z =>
      obtain ⟨h1, h2⟩ := h.coldWeather z hr
      rw [Option.getD_some, signed16_be16s (by omega) h2, if_neg (by omega)]
  have hflags := bitIf_flags_lt k.drivesTripLine k.followsPlantTrip
  simp only [requestedConfig, blockNumbers, fieldOr, List.getD_cons_zero, List.getD_cons_succ,
    contactOf_contactCode, if_neg (Nat.not_le.mpr hflags), signed16_be16s hair.1 hair.2,
    signed16_be16s hwater.1 hwater.2, signed16_be16s hwatch.1 hwatch.2, signed16_be16s hguard.1 hguard.2,
    signed16_be16s hhard.1 hhard.2, signed16_be16s hdeg.1 hdeg.2, signed16_be16s hoat.1 hoat.2, hreset, hcold,
    flags_low, flags_high, Int.toNat_of_nonneg hy0]

theorem clampConfig_eq_stored (k : CoilConfig) : clampConfig k = storedConfig k := by
  have hw : 0 ≤ within 0 1000 k.watchBand := by unfold within; omega
  simp only [clampConfig, storedConfig, clampBlindTripTime]
  rw [clampInt_within (lo := 0) (hi := 1000) (by omega) k.watchBand, clampInt_within hw]
  rw [funext (clampNat_withinNat (lo := 60) (hi := 3600) (by omega)),
    funext (clampInt_within (lo := -4000) (hi := 1000) (by omega))]
  simp only [clampNat_withinNat (show 1 ≤ 6 by omega), clampNat_withinNat (show 100 ≤ 60000 by omega),
    clampNat_withinNat (Nat.zero_le 500), clampNat_withinNat (Nat.zero_le 600),
    clampNat_withinNat (Nat.zero_le 3600), clampNat_withinNat (show 30 ≤ 3600 by omega),
    clampNat_withinNat (show 10 ≤ 900 by omega), clampNat_withinNat (show 1 ≤ 4 by omega),
    clampNat_withinNat (show 600 ≤ 86400 by omega), clampInt_within (show (-1000 : Int) ≤ 800 by omega),
    clampInt_within (show (-1500 : Int) ≤ 1000 by omega), clampInt_within (show (10 : Int) ≤ 200 by omega),
    clampInt_within (show (50 : Int) ≤ 1000 by omega), clampInt_within (show (0 : Int) ≤ 500 by omega)]

/-! ### What LOAD-COIL does -/

/-- LOAD-COIL of a configuration that may be asked for (R2, R4). -/
theorem serveLoadCoil_asked {args : List Byte} {c : CoilId} {fields : List Nat} {req : CoilConfig}
    (hp : parseLayout (1 :: configWidths) 2 args = some (c.val :: fields))
    (hreq : requestedConfig fields = some req) (s : State) :
    serveLoadCoil args s.reservePlace =
      if (s.coil c).state = .offline then
        .accept (s.setCoil c { s.coil c with cfg := storedConfig req }).reservePlace
          (decide (storedConfig req ≠ req))
      else .refuse s.reservePlace .state := by
  unfold serveLoadCoil
  rw [hp]
  dsimp only
  rw [coilOf_val, hreq]
  dsimp only
  rw [← clampConfig_eq_stored]
  by_cases hoff : (s.coil c).state = .offline
  · have hoff' : (s.reservePlace.coil c).state = .offline := hoff
    rw [if_neg (not_not.mpr hoff'), if_pos hoff]
    rfl
  · have hoff' : (s.reservePlace.coil c).state ≠ .offline := hoff
    rw [if_pos hoff', if_neg hoff]

theorem byteOf_append (n : Nat) (rest : List Byte) : byteOf n ++ rest = BitVec.ofNat 8 n :: rest := rfl

theorem parseLayout_block {k : CoilConfig} (h : FitsBlock k) (c : CoilId) :
    parseLayout (1 :: configWidths) 2 (BitVec.ofNat 8 c.val :: configBlock k false) =
      some (c.val :: blockNumbers k) := by
  rw [parseLayout_eq_some]
  refine ⟨?_, by simp [blockNumbers]⟩
  rw [← byteOf_append, splitFields_byteOf (by omega), splitFields_configBlock h]
  rfl

theorem parseLayout_quorum {quorum : Nat} (h : quorum < 256) (c : CoilId) :
    parseLayout (1 :: configWidths) 2 [BitVec.ofNat 8 c.val, BitVec.ofNat 8 quorum] =
      some [c.val, quorum] := by
  rw [parseLayout_eq_some]
  refine ⟨?_, by simp⟩
  rw [← byteOf_append, ← byteOf_append, splitFields_byteOf (by omega), configWidths, splitFields_byteOf h]
  rfl

/-- A list that ends after face_quorum asks for R1's defaults in every other field. -/
theorem requestedConfig_quorum (quorum : Nat) :
    requestedConfig [quorum] = some { manualDefaults with faceQuorum := quorum } := by
  simp [requestedConfig, fieldOr, contactOf, manualDefaults, signed16]

theorem storedConfig_quorum (quorum : Nat) : storedConfig { manualDefaults with faceQuorum := quorum } =
    { manualDefaults with faceQuorum := withinNat 1 6 quorum } := by
  simp [storedConfig, manualDefaults, within, withinNat]

theorem storedConfig_quorum_ne (quorum : Nat) :
    storedConfig { manualDefaults with faceQuorum := quorum } ≠ { manualDefaults with faceQuorum := quorum } ↔
      ¬ (1 ≤ quorum ∧ quorum ≤ 6) := by
  rw [storedConfig_quorum, not_iff_not]
  have hw : withinNat 1 6 quorum = quorum ↔ 1 ≤ quorum ∧ quorum ≤ 6 := by unfold withinNat; omega
  rw [← hw]
  exact ⟨fun h => congrArg CoilConfig.faceQuorum h, fun h => by rw [h]⟩

/-- What a configuration that is asked for says of its contact and flags bytes (R179). -/
theorem requestedConfig_bytes {f : List Nat} {req : CoilConfig} (h : requestedConfig f = some req) :
    (fieldOr f 20 255 = 255 ∨ fieldOr f 20 255 < 32) ∧ fieldOr f 21 1 < 4 := by
  unfold requestedConfig at h
  split at h
  · cases h
  · rename_i hc
    dsimp only at h
    split at h
    · cases h
    · refine ⟨?_, by omega⟩
      unfold contactOf at hc
      split at hc
      · exact Or.inl (by assumption)
      · split at hc
        · exact Or.inr (by assumption)
        · cases hc

theorem serveLoadCoil_malformed {args : List Byte} (u : State)
    (h : ¬ endsAtField coilWidths 2 args ∨ 16 ≤ argument args 0 ∨
      (41 ≤ args.length ∧ 32 ≤ argument args 40 ∧ argument args 40 < 255) ∨
      (42 ≤ args.length ∧ 4 ≤ argument args 41)) :
    serveLoadCoil args u = .refuse u .malformed := by
  unfold serveLoadCoil
  split
  · rename_i number fields hp
    obtain ⟨hlen2, hlen, hsum⟩ := parseLayout_length (ws := coilWidths) hp
    split
    · rename_i c req hc hreq
      have h0 : number = argument args 0 := fieldOr_byte (d := 0) hp (i := 0) (by simp) rfl rfl
      obtain ⟨hcontact, hflags⟩ := requestedConfig_bytes hreq
      have hwide : ∀ n, n < 22 → (coilWidths.take n).sum ≤ 40 := by decide
      have hwhole : ∀ n, n < 23 → (coilWidths.take n).sum ≤ 41 := by decide
      exfalso
      rcases h with h | h | ⟨hl, h⟩ | ⟨hl, h⟩
      · exact h (endsAtField_of_parseLayout hp)
      · rw [h0, coilOf_eq_none h] at hc
        cases hc
      · have hn : 21 < (number :: fields).length := by
          by_contra hn
          have := hwide (number :: fields).length (by omega)
          omega
        have : fieldOr fields 20 255 = argument args 40 := fieldOr_byte (d := 255) hp (i := 21) hn rfl rfl
        omega
      · have hn : 22 < (number :: fields).length := by
          by_contra hn
          have := hwhole (number :: fields).length (by omega)
          omega
        have : fieldOr fields 21 1 = argument args 41 := fieldOr_byte (d := 1) hp (i := 22) hn rfl rfl
        omega
    · rfl
  · rfl

/-- Settles O31: the fields of a block read back as the configuration; clamping is R1's table. -/
theorem loadCoilStoresClampedFields : Obligations.LoadCoilStoresClampedFields := by
  intro s src c k quorum hs hk hq
  have hblock := serveLoadCoil_asked (parseLayout_block hk c) (requestedConfig_blockNumbers hk) s
  have hshort := serveLoadCoil_asked (parseLayout_quorum hq c) (requestedConfig_quorum quorum) s
  refine ⟨fun hoff => ⟨?_, ?_⟩, fun hon => ?_, fun args hbad => ?_⟩
  · refine congrArg Host.Outcome.next ((takeAdmin_accepted
      (t := s.setCoil c { s.coil c with cfg := storedConfig k }) (clamped := decide (storedConfig k ≠ k))
      hs (by rw [hblock, if_pos hoff]) rfl).trans ?_)
    rw [acceptedIf_code (q := storedConfig k = k) Iff.rfl]
    rfl
  · refine congrArg Host.Outcome.next ((takeAdmin_accepted
      (t := s.setCoil c { s.coil c with cfg := { manualDefaults with faceQuorum := withinNat 1 6 quorum } })
      hs (by rw [hshort, if_pos hoff, storedConfig_quorum]) rfl).trans ?_)
    rw [← storedConfig_quorum, acceptedIf_code (storedConfig_quorum_ne quorum)]
    rfl
  · exact congrArg Host.Outcome.next (takeAdmin_refused (r := .state) hs (by rw [hblock, if_neg hon]))
  · exact congrArg Host.Outcome.next
      (takeAdmin_refused (r := .malformed) hs (serveLoadCoil_malformed _ hbad))

end Sys2Proof.Machine
end

section
/-! LOAD-RULE (O34). -/

namespace Sys2Proof.Machine

/-! ### The key of a rule in the table -/

section Keys
variable {s : State} {r : OverrideRule}

theorem sameKey_iff_sameRuleKey (q : OverrideRule) :
    OverrideRule.sameKey q r.coil r.station r.channel r.level = true ↔ sameRuleKey r q := by
  simp [OverrideRule.sameKey, ruleNames, sameRuleKey, and_assoc]

theorem ruleIndex_eq_some {i : Nat} {q : OverrideRule} (hi : s.rules[i]? = some (some q))
    (hk : sameRuleKey r q) (hl : ∀ j q', j < i → s.rules[j]? = some (some q') → ¬ sameRuleKey r q') :
    ruleIndex s.rules r.coil r.station r.channel r.level = some i :=
  findIdx_any_eq_some.mpr ⟨⟨q, hi, (sameKey_iff_sameRuleKey q).mpr hk⟩, fun j q' hj hq' => by
    rw [Bool.eq_false_iff, ne_eq, sameKey_iff_sameRuleKey]
    exact hl j q' hj hq'⟩

theorem ruleIndex_eq_none (h : ∀ q, some q ∈ s.rules → ¬ sameRuleKey r q) :
    ruleIndex s.rules r.coil r.station r.channel r.level = none :=
  findIdx_any_eq_none.mpr fun q hq => by
    rw [Bool.eq_false_iff, ne_eq, sameKey_iff_sameRuleKey]
    exact h q hq

theorem hasKey_iff_recordOf (x : ActuatorRecord) :
    x.hasKey r.station r.channel = true ↔ recordOf r x := by
  simp [ActuatorRecord.hasKey, recordOf]

/-- The recomputation of the record of a pair (R85), in the terms of claims. -/
theorem recomputeWhere_key (s : State) (station channel : Nat) :
    s.recomputeWhere (fun x => x.hasKey station channel) =
      s.withRecords (s.records.map (Option.map (fun x =>
        if x.station = station ∧ x.channel = channel
        then recomputeRecord s.rules s.heldLevels s.plantClock x else x))) := by
  unfold State.recomputeWhere
  congr 3
  funext x
  exact if_congr (by simp [ActuatorRecord.hasKey]) rfl rfl

end Keys

/-! ### The bytes of a LOAD-RULE -/

/-- The layout of LOAD-RULE (R179). -/
abbrev ruleWidths : List Nat := [1, 1, 1, 1, 1, 1, 2, 1, 2]

/-- The rule that argument bytes ask for (R171, R179). -/
def askedRule (args : List Byte) : Option OverrideRule := (parseLayout ruleWidths 8 args).bind requestedRule

theorem serveLoadRule_congr {args args' : List Byte} (h : askedRule args = askedRule args') :
    serveLoadRule args = serveLoadRule args' := by
  funext u
  unfold askedRule at h
  unfold serveLoadRule
  rw [h]

/-- The code of a role tag (R179). -/
def tagByte : RoleTag → Byte
  | .heatingValve => 0#8
  | .pump => 1#8
  | .oaDamper => 2#8
  | .fan => 3#8
  | .other => 4#8

/-- The code of a level (R179). -/
def levelByte : RuleLevel → Byte
  | .w => 1#8
  | .g => 2#8
  | .t => 3#8

/-- The code of a mode (R179). -/
def modeByte : RuleMode → Byte
  | .floor => 0#8
  | .ceiling => 1#8
  | .force => 2#8

/-- The code of a marker (R179). -/
def markerByte (b : Bool) : Byte := if b then 1#8 else 0#8

theorem tagOf_tagByte (x : RoleTag) : tagOf (tagByte x).toNat = some x := by cases x <;> rfl

theorem ruleLevelOf_levelByte (x : RuleLevel) : ruleLevelOf (levelByte x).toNat = some x := by
  cases x <;> rfl

theorem modeOf_modeByte (x : RuleMode) : modeOf (modeByte x).toNat = some x := by cases x <;> rfl

theorem markerOf_markerByte (x : Bool) : markerOf (markerByte x).toNat = some x := by cases x <;> rfl

theorem ruleArgs_eq (r : OverrideRule) (value : Nat) : ruleArgs r value =
    [BitVec.ofNat 8 r.coil.val, BitVec.ofNat 8 r.station, BitVec.ofNat 8 r.channel, tagByte r.tag,
      levelByte r.level, modeByte r.mode] ++ (be16 value ++ ([markerByte r.restore] ++ be16 r.refresh)) := by
  simp only [ruleArgs, List.append_assoc]
  cases r.tag <;> cases r.level <;> cases r.mode <;> rfl

section Bytes
variable {r : OverrideRule} (hst : 1 ≤ r.station ∧ r.station ≤ 199) (hch : r.channel ≤ 63)
include hst hch

theorem parseLayout_rule {numbers : List Byte} {fields : List Nat} {ws : List Nat}
    (h : splitFields ws numbers = some fields) (hf : 2 ≤ fields.length) :
    parseLayout (1 :: 1 :: 1 :: 1 :: 1 :: 1 :: ws) 8 ([BitVec.ofNat 8 r.coil.val, BitVec.ofNat 8 r.station,
      BitVec.ofNat 8 r.channel, tagByte r.tag, levelByte r.level, modeByte r.mode] ++ numbers) =
      some (r.coil.val :: r.station :: r.channel :: (tagByte r.tag).toNat :: (levelByte r.level).toNat ::
        (modeByte r.mode).toNat :: fields) := by
  rw [parseLayout_eq_some]
  refine ⟨?_, by simp only [List.length_cons]; omega⟩
  simp only [splitFields, List.cons_append, List.nil_append, List.length_cons, List.take_succ_cons,
    List.take_zero, List.drop_succ_cons, List.drop_zero, h, beNat_singleton, Option.map_some]
  rw [toNat_byte (show r.coil.val < 256 by omega), toNat_byte (show r.station < 256 by omega),
    toNat_byte (show r.channel < 256 by omega)]
  simp

theorem requestedRule_eq (value refresh : Nat) (numbers : List Nat) (hv : numbers.getD 0 0 = value)
    (hm : numbers.getD 1 255 = (markerByte r.restore).toNat) (hr : numbers.getD 2 60 = refresh) :
    requestedRule (r.coil.val :: r.station :: r.channel :: (tagByte r.tag).toNat ::
      (levelByte r.level).toNat :: (modeByte r.mode).toNat :: numbers) =
      some { r with value := ruleValueOf value, refresh := refresh } := by
  simp only [requestedRule, fieldOr, List.getD_cons_zero, List.getD_cons_succ, coilOf_val, tagOf_tagByte,
    ruleLevelOf_levelByte, modeOf_modeByte, hv, hm, hr, markerOf_markerByte]
  rw [if_pos (Bool.and_eq_true_iff.mpr ⟨(isStation_iff _).mpr hst, (isChannel_iff _).mpr hch⟩)]

theorem askedRule_ruleArgs {value : Nat} (hv : value < 65536) (hr : r.refresh < 65536) :
    askedRule (ruleArgs r value) = some { r with value := ruleValueOf value } := by
  have hsplit : splitFields [2, 1, 2] (be16 value ++ ([markerByte r.restore] ++ (be16 r.refresh ++ []))) =
      some [value, (markerByte r.restore).toNat, r.refresh] := by
    rw [splitFields_be16 hv, splitFields_append (w := 1) rfl (by omega), splitFields_be16 hr, beNat_singleton]
    rfl
  unfold askedRule
  rw [ruleArgs_eq, ← List.append_nil (be16 r.refresh), parseLayout_rule hst hch hsplit (by simp)]
  exact requestedRule_eq hst hch value r.refresh _ rfl rfl rfl

theorem askedRule_take9 {value : Nat} (hv : value < 65536) (hr : r.refresh = 60) :
    askedRule ((ruleArgs r value).take 9) = some { r with value := ruleValueOf value } := by
  have hsplit : splitFields [2, 1, 2] (be16 value ++ ([markerByte r.restore] ++ [])) =
      some [value, (markerByte r.restore).toNat] := by
    rw [splitFields_be16 hv, splitFields_append (w := 1) rfl (by omega), beNat_singleton]
    rfl
  rw [ruleArgs_eq]
  refine (congrArg (Option.bind · requestedRule) (parseLayout_rule hst hch hsplit (by simp))).trans ?_
  exact requestedRule_eq hst hch value r.refresh _ rfl rfl hr.symm

end Bytes

theorem coilOf_lt {n : Nat} {c : CoilId} (h : coilOf n = some c) : n < 16 := by
  by_contra hn
  rw [coilOf_eq_none (by omega)] at h
  cases h

/-! The codes in use (R179). -/

theorem tagOf_lt {n : Nat} {x : RoleTag} (h : tagOf n = some x) : n < 5 := by
  unfold tagOf at h
  grind

theorem ruleLevelOf_bounds {n : Nat} {x : RuleLevel} (h : ruleLevelOf n = some x) : 1 ≤ n ∧ n ≤ 3 := by
  unfold ruleLevelOf at h
  grind

theorem modeOf_lt {n : Nat} {x : RuleMode} (h : modeOf n = some x) : n < 3 := by
  unfold modeOf at h
  grind

theorem markerOf_lt {n : Nat} {x : Bool} (h : markerOf n = some x) : n < 2 := by
  unfold markerOf at h
  grind

/-- What a rule that is asked for says of its arguments (R11, R179). -/
theorem requestedRule_identifiers {f : List Nat} {req : OverrideRule} (h : requestedRule f = some req) :
    fieldOr f 0 255 < 16 ∧ (1 ≤ fieldOr f 1 0 ∧ fieldOr f 1 0 ≤ 199) ∧ fieldOr f 2 255 ≤ 63 ∧
    fieldOr f 3 255 < 5 ∧ (1 ≤ fieldOr f 4 0 ∧ fieldOr f 4 0 ≤ 3) ∧ fieldOr f 5 255 < 3 ∧
    fieldOr f 7 255 < 2 := by
  unfold requestedRule at h
  split at h
  · rename_i c tag level mode restore hc ht hl hm hr
    split at h
    · rename_i hok
      obtain ⟨hst, hch⟩ := Bool.and_eq_true_iff.mp hok
      exact ⟨coilOf_lt hc, (isStation_iff _).mp hst, (isChannel_iff _).mp hch, tagOf_lt ht,
        ruleLevelOf_bounds hl, modeOf_lt hm, markerOf_lt hr⟩
    · cases h
  · cases h

theorem askedRule_malformed {args : List Byte}
    (h : ¬ endsAtField ruleWidths 8 args ∨ 16 ≤ argument args 0 ∨ ¬ argumentIsStation args 1 ∨
      64 ≤ argument args 2 ∨ 5 ≤ argument args 3 ∨ argument args 4 = 0 ∨ 4 ≤ argument args 4 ∨
      3 ≤ argument args 5 ∨ 2 ≤ argument args 8) : askedRule args = none := by
  unfold askedRule
  cases hp : parseLayout ruleWidths 8 args with
  | none => rfl
  | some fields =>
    have hlen := (parseLayout_length hp).1
    rw [Option.bind_some, Option.eq_none_iff_forall_ne_some]
    intro req hreq
    have hid := requestedRule_identifiers hreq
    rw [fieldOr_byte hp (i := 0) (j := 0) (by omega) rfl rfl,
      fieldOr_byte hp (i := 1) (j := 1) (by omega) rfl rfl,
      fieldOr_byte hp (i := 2) (j := 2) (by omega) rfl rfl,
      fieldOr_byte hp (i := 3) (j := 3) (by omega) rfl rfl,
      fieldOr_byte hp (i := 4) (j := 4) (by omega) rfl rfl,
      fieldOr_byte hp (i := 5) (j := 5) (by omega) rfl rfl,
      fieldOr_byte hp (i := 7) (j := 8) (by omega) rfl rfl] at hid
    unfold argumentIsStation at h
    rcases h with h | h
    · exact h (endsAtField_of_parseLayout hp)
    · omega

/-! ### What LOAD-RULE does -/

/-- The value that a rule stores: clamped, and at an end of the range from 32768 upward (R11, log 11). -/
theorem clampedValue_cases {value : Nat} (h : value < 65536) :
    (value < 32768 ∧ clampInt 0 1000 (ruleValueOf value) = min 1000 (value : Int) ∧
      ruleValueOf value = value) ∨
    (32768 ≤ value ∧ (clampInt 0 1000 (ruleValueOf value) = 0 ∨ clampInt 0 1000 (ruleValueOf value) = 1000) ∧
      clampInt 0 1000 (ruleValueOf value) ≠ ruleValueOf value) := by
  rw [clampInt_eq (by omega)]
  unfold ruleValueOf signed16
  by_cases hv : value < 32768
  · rw [if_pos hv]
    exact Or.inl ⟨hv, by omega, rfl⟩
  · rw [if_neg hv, if_neg hv]
    refine Or.inr ⟨by omega, ?_⟩
    split <;> omega

theorem clampRule_ne {r : OverrideRule} {value : Nat} (hv : value < 65536) :
    clampRule { r with value := ruleValueOf value } ≠ { r with value := ruleValueOf value } ↔
      ¬ (value ≤ 1000 ∧ 5 ≤ r.refresh ∧ r.refresh ≤ 600) := by
  have hc := clampedValue_cases hv
  have hr : clampNat 5 600 r.refresh = r.refresh ↔ 5 ≤ r.refresh ∧ r.refresh ≤ 600 := by
    rw [clampNat_eq (by omega)]; omega
  have hval : clampInt 0 1000 (ruleValueOf value) = ruleValueOf value ↔ value ≤ 1000 := by
    rcases hc with ⟨-, h1, h2⟩ | ⟨h1, -, h2⟩
    · rw [h1, h2]; omega
    · exact ⟨fun h => absurd h h2, fun h => by omega⟩
  rw [not_iff_not, ← hr, ← hval]
  constructor
  · intro h
    exact ⟨congrArg OverrideRule.value h, congrArg OverrideRule.refresh h⟩
  · rintro ⟨h1, h2⟩
    simp only [clampRule, h1, h2]

/-- The records of a LOAD-RULE: that of the pair is created when there is none, and recomputed. -/
theorem recordsAfterLoad_ensure (s : State) (rules : List (Option OverrideRule)) (r : OverrideRule) :
    recordsAfterLoad s rules r ((ensureRecord s.records r.station r.channel).map (Option.map (fun x =>
      if x.station = r.station ∧ x.channel = r.channel
      then recomputeRecord rules s.heldLevels s.plantClock x else x))) := by
  refine ⟨_, ?_, rfl⟩
  unfold ensureRecord
  by_cases hh : hasRecord s.records r.station r.channel = true
  · rw [if_pos hh]
    obtain ⟨x, hx, hk⟩ := recordFor_isSome.mp hh
    exact Or.inl ⟨⟨x, hx, by simpa [recordKey, recordOf] using hk⟩, rfl⟩
  · rw [if_neg hh]
    have hnone : ∀ x, some x ∈ s.records → ¬ recordOf r x := fun x hx hk =>
      hh (recordFor_isSome.mpr ⟨x, hx, by simpa [recordKey, recordOf] using hk⟩)
    cases hi : lowestFree s.records with
    | none => exact Or.inr (Or.inr ⟨hnone, lowestFree_eq_none.mp hi, rfl⟩)
    | some i =>
      obtain ⟨h1, h2⟩ := lowestFree_eq_some.mp hi
      exact Or.inr (Or.inl ⟨hnone, i, h1, h2, rfl⟩)

/-- LOAD-RULE of a rule that may be asked for, by the state of its coil and its index (R4, R12, R85). -/
theorem serveLoadRule_asked {args : List Byte} {req : OverrideRule} (hargs : askedRule args = some req)
    (s : State) : serveLoadRule args s.reservePlace =
      if (s.coil req.coil).state ≠ .offline then .refuse s.reservePlace .state
      else
        match placeIndex (ruleIndex s.rules req.coil req.station req.channel req.level) s.rules with
        | none => .refuse s.reservePlace .full
        | some i =>
          .accept (((s.withRules (s.rules.set i (some (clampRule req)))).withRecords
            (ensureRecord s.records req.station req.channel)).recomputeWhere
              (fun x => x.hasKey req.station req.channel)).reservePlace (decide (clampRule req ≠ req)) := by
  unfold askedRule at hargs
  unfold serveLoadRule
  rw [hargs]
  rfl

/-- Settles O34: LOAD-RULE by the state of its coil and the index of its key. -/
theorem loadRulePlacesItsRule : Obligations.LoadRulePlacesItsRule := by
  intro s src r value hs hst hch hr hv
  have hargs := askedRule_ruleArgs hst hch hv hr
  have hasked := serveLoadRule_asked hargs s
  have hrefused {args : List Byte} (h : askedRule args = none) :
      serveLoadRule args s.reservePlace = .refuse s.reservePlace .malformed := by
    unfold askedRule at h
    unfold serveLoadRule
    rw [h]
  have hclamp : clampRule { r with value := ruleValueOf value } =
      { r with value := clampInt 0 1000 (ruleValueOf value), refresh := withinNat 5 600 r.refresh } := by
    rw [← clampNat_withinNat (by omega)]
    rfl
  refine ⟨fun hoff => ⟨fun i hi => ?_, fun hkey hfull => ?_⟩, fun hon => ?_, fun h60 => ?_, fun args hbad => ?_⟩
  · have hplace : placeIndex (ruleIndex s.rules r.coil r.station r.channel r.level) s.rules = some i := by
      rcases hi with ⟨q, hq, hk, hl⟩ | ⟨hfree, hi, hl⟩
      · rw [ruleIndex_eq_some hq hk hl]
        rfl
      · rw [ruleIndex_eq_none hfree]
        exact lowestFree_eq_some.mpr ⟨hi, hl⟩
    have hcases := clampedValue_cases hv
    refine ⟨clampInt 0 1000 (ruleValueOf value), _, fun h => by omega, fun h => by omega,
      recordsAfterLoad_ensure s _ r, ?_⟩
    refine congrArg Host.Outcome.next ((takeAdmin_accepted
      (t := ((s.withRules (s.rules.set i (some (clampRule { r with value := ruleValueOf value })))).withRecords
        (ensureRecord s.records r.station r.channel)).recomputeWhere (fun x => x.hasKey r.station r.channel))
      (clamped := decide (clampRule { r with value := ruleValueOf value } ≠ { r with value := ruleValueOf value }))
      hs ?_ rfl).trans ?_)
    · rw [hasked, if_neg (not_not.mpr hoff), hplace]
    · rw [acceptedIf_code (clampRule_ne hv), recomputeWhere_key, hclamp]
      rfl
  · refine congrArg Host.Outcome.next (takeAdmin_refused (r := .full) hs ?_)
    rw [hasked, if_neg (not_not.mpr hoff), ruleIndex_eq_none hkey, placeIndex, lowestFree_eq_none.mpr hfull]
  · exact congrArg Host.Outcome.next (takeAdmin_refused (r := .state) hs (by rw [hasked, if_pos hon]))
  · have := serveLoadRule_congr ((askedRule_take9 hst hch hv h60).trans hargs.symm)
    simp only [exec, execLoadRule, State.adminLoadRule, this]
  · exact congrArg Host.Outcome.next
      (takeAdmin_refused (r := .malformed) hs (hrefused (askedRule_malformed hbad)))

end Sys2Proof.Machine
end

section
/-! CLEAR-RULE (O35). -/

namespace Sys2Proof.Machine

/-! ### The bytes of a CLEAR-RULE -/

theorem parseFourBytes (a b c d : Byte) :
    parseLayout [1, 1, 1, 1] 4 [a, b, c, d] = some [a.toNat, b.toNat, c.toNat, d.toNat] := by
  simp [parseLayout, splitFields, beNat]

theorem ruleKeyArgs_eq (r : OverrideRule) : ruleKeyArgs r =
    [BitVec.ofNat 8 r.coil.val, BitVec.ofNat 8 r.station, BitVec.ofNat 8 r.channel, levelByte r.level] := by
  unfold ruleKeyArgs
  cases r.level <;> rfl

theorem State.afterRuleRemoved_reservePlace (s : State) (station channel : Nat) :
    s.reservePlace.afterRuleRemoved station channel = (s.afterRuleRemoved station channel).reservePlace := by
  unfold State.afterRuleRemoved
  rw [show s.reservePlace.rules = s.rules from rfl]
  split <;> rfl

/-- CLEAR-RULE with a key in its sets, by what the table holds (R4, R13). -/
theorem serveClearRule_key {r : OverrideRule} (hst : 1 ≤ r.station ∧ r.station ≤ 199) (hch : r.channel ≤ 63)
    (s : State) : serveClearRule (ruleKeyArgs r) s.reservePlace =
      match ruleIndex s.rules r.coil r.station r.channel r.level with
      | none => .accept s.reservePlace false
      | some i =>
        if (s.coil r.coil).state ≠ .offline then .refuse s.reservePlace .state
        else .accept ((s.withRules (s.rules.set i none)).afterRuleRemoved r.station r.channel).reservePlace
          false := by
  rw [ruleKeyArgs_eq]
  unfold serveClearRule
  rw [parseFourBytes, toNat_byte (by omega), toNat_byte (by omega), toNat_byte (by omega)]
  simp only [coilOf_val, ruleLevelOf_levelByte]
  rw [if_neg (not_not.mpr ⟨(isStation_iff _).mpr hst, (isChannel_iff _).mpr hch⟩)]
  rw [show s.reservePlace.rules = s.rules from rfl]
  cases ruleIndex s.rules r.coil r.station r.channel r.level with
  | none => rfl
  | some i =>
    refine if_congr Iff.rfl rfl ?_
    exact congrArg (Served.accept · false)
      (State.afterRuleRemoved_reservePlace (s.withRules (s.rules.set i none)) r.station r.channel)

theorem serveClearRule_malformed {args : List Byte} (u : State)
    (h : args.length ≠ 4 ∨ 16 ≤ argument args 0 ∨ ¬ argumentIsStation args 1 ∨ 64 ≤ argument args 2 ∨
      argument args 3 = 0 ∨ 4 ≤ argument args 3) :
    serveClearRule args u = .refuse u .malformed := by
  unfold serveClearRule
  split
  · rename_i coil station channel level hp
    have hlen := (parseLayout_length hp).2.2
    have h0 : coil = argument args 0 := fieldOr_byte (d := 0) hp (i := 0) (by simp) rfl rfl
    have h1 : station = argument args 1 := fieldOr_byte (d := 0) hp (i := 1) (by simp) rfl rfl
    have h2 : channel = argument args 2 := fieldOr_byte (d := 0) hp (i := 2) (by simp) rfl rfl
    have h3 : level = argument args 3 := fieldOr_byte (d := 0) hp (i := 3) (by simp) rfl rfl
    subst h0 h1 h2 h3
    split
    · rename_i c l hc hl
      have hlevel := ruleLevelOf_bounds hl
      rw [if_pos]
      rintro ⟨hst, hch⟩
      have hcoil := coilOf_lt hc
      have hchannel := (isChannel_iff _).mp hch
      have hargs : args.length = 4 := hlen
      have hstation : argumentIsStation args 1 := (isStation_iff _).mp hst
      rcases h with h | h | h | h | h | h
      · exact h hargs
      · omega
      · exact h hstation
      all_goals omega
    · rfl
  · rfl

/-! ### What the removal of a rule does to its record -/

section Removal
variable {s : State} {r : OverrideRule}

theorem named_iff : (s.rules.filterMap id).any (fun q => ruleNames q r.station r.channel) = true ↔
    ∃ q, some q ∈ s.rules ∧ q.station = r.station ∧ q.channel = r.channel := by
  simp only [List.any_eq_true, List.mem_filterMap, id_eq, exists_eq_right, ruleNames_iff, Prod.mk.injEq]

/-- A pair that a rule still names: its record is recomputed (R13, R85). -/
theorem State.afterRuleRemoved_named
    (h : ∃ q, some q ∈ s.rules ∧ q.station = r.station ∧ q.channel = r.channel) :
    s.afterRuleRemoved r.station r.channel =
      s.withRecords (s.records.map (Option.map (fun x =>
        if x.station = r.station ∧ x.channel = r.channel
        then recomputeRecord s.rules s.heldLevels s.plantClock x else x))) := by
  unfold State.afterRuleRemoved
  rw [if_pos (named_iff.mpr h), recomputeWhere_key]

/-- A pair that no rule names any more: its record is removed (R15). -/
theorem State.afterRuleRemoved_unnamed
    (h : ∀ q, some q ∈ s.rules → ¬ (q.station = r.station ∧ q.channel = r.channel)) :
    s.afterRuleRemoved r.station r.channel =
      (s.withRecords (removeRecord s.records r.station r.channel)).withTxn
        (loseRecord s.txn r.station r.channel) := by
  unfold State.afterRuleRemoved
  rw [if_neg]
  rw [named_iff]
  rintro ⟨q, hq, hk⟩
  exact h q hq hk

theorem removeRecord_length (records : List (Option ActuatorRecord)) (station channel : Nat) :
    (removeRecord records station channel).length = records.length := List.length_map _

theorem removeRecord_at {records : List (Option ActuatorRecord)} {j : Nat} {x : ActuatorRecord}
    (hx : records[j]? = some (some x)) :
    (recordOf r x → (removeRecord records r.station r.channel)[j]? = some none) ∧
    (¬ recordOf r x → (removeRecord records r.station r.channel)[j]? = some (some x)) := by
  unfold removeRecord
  rw [List.getElem?_map, hx, Option.map_some, Option.any_some]
  refine ⟨fun h => ?_, fun h => ?_⟩
  · rw [if_pos ((hasKey_iff_recordOf x).mpr h)]
  · rw [if_neg (mt (hasKey_iff_recordOf x).mp h)]

theorem removeRecord_free {records : List (Option ActuatorRecord)} {j station channel : Nat}
    (hj : records[j]? = some none) : (removeRecord records station channel)[j]? = some none := by
  unfold removeRecord
  rw [List.getElem?_map, hj]
  rfl

/-- An own SET in flight for the pair loses its record. -/
theorem loseRecord_own {phase : TxnPhase} {t : Transaction} {station channel : Nat} {live : Bool}
    (h : t.origin = .ownSet station channel live) :
    loseRecord (.outstanding phase t) station channel =
      .outstanding phase { t with origin := .ownSet station channel false } := by
  simp [loseRecord, h]

/-- Any other transaction stays as it is. -/
theorem loseRecord_other {txn : TxnState} {station channel : Nat}
    (h : ∀ phase t live, txn = .outstanding phase t → t.origin ≠ .ownSet station channel live) :
    loseRecord txn station channel = txn := by
  unfold loseRecord
  split
  · rename_i phase t
    split
    · rename_i st ch live ho
      have hne : (st == station && ch == channel) = false := by
        rw [Bool.eq_false_iff, ne_eq, Bool.and_eq_true_iff, beq_iff_eq, beq_iff_eq]
        rintro ⟨rfl, rfl⟩
        exact h phase t live rfl ho
      rw [hne, Bool.not_false, Bool.and_true, ← ho]
    · rfl
  · rfl

end Removal

/-- Settles O35: CLEAR-RULE by the index of its key, the state of its coil and the rules that are left. -/
theorem clearRuleFreesItsIndex : Obligations.ClearRuleFreesItsIndex := by
  intro s src r hs hst hch
  have hserve := serveClearRule_key hst hch s
  refine ⟨fun i q hi hk hl => ?_, fun hfree => ?_, fun args hbad => ?_⟩
  · rw [ruleIndex_eq_some hi hk hl] at hserve
    have hcleared (hoff : (s.coil r.coil).state = .offline) {t : State}
        (ht : (s.withRules (s.rules.set i none)).afterRuleRemoved r.station r.channel = t)
        (hstraps : t.straps = s.straps) :
        exec (.clearRule src (ruleKeyArgs r)) s = .next (t.replied src 0x05#8 0x00#8 []) :=
      congrArg Host.Outcome.next (takeAdmin_accepted (clamped := false) hs
        (by rw [hserve, ← ht]; exact if_neg (not_not.mpr hoff)) hstraps)
    refine ⟨fun hoff hnamed => ?_, fun hoff hunnamed => ?_, fun hon => ?_⟩
    · exact hcleared hoff (State.afterRuleRemoved_named hnamed) rfl
    · refine ⟨removeRecord s.records r.station r.channel, loseRecord s.txn r.station r.channel,
        hcleared hoff (State.afterRuleRemoved_unnamed hunnamed) rfl, removeRecord_length _ _ _,
        fun j x hx => removeRecord_at hx, fun j hj => removeRecord_free hj, fun phase t live ht ho => ?_,
        loseRecord_other⟩
      rw [ht, loseRecord_own ho]
    · exact congrArg Host.Outcome.next
        (takeAdmin_refused (r := .state) hs (by rw [hserve]; exact if_pos hon))
  · rw [ruleIndex_eq_none hfree] at hserve
    exact congrArg Host.Outcome.next (takeAdmin_accepted (t := s) (clamped := false) hs hserve rfl)
  · exact congrArg Host.Outcome.next
      (takeAdmin_refused (r := .malformed) hs (serveClearRule_malformed _ hbad))

end Sys2Proof.Machine
end

section
/-! ENABLE-COIL (O38): the entry into STARTUP with a reply beside it. -/

namespace Sys2Proof.Machine

theorem Entered.fillReserved {s t : State} {c : CoilId} {k : Coil} {new : CoilState} {cause : Option Cause}
    (h : Entered s t c k new cause) (x : OutTelegram) :
    Entered (s.fillReserved x) (t.fillReserved x) c k new cause where
  frame := congrArg (State.fillReserved · x) h.frame
  coils := h.coils
  heldLevels := h.heldLevels
  records := h.records
  contacts := h.contacts
  notice := h.notice

theorem coilArgument_byte (c : CoilId) : coilArgument [BitVec.ofNat 8 c.val] = some c := by
  have hb : (BitVec.ofNat 8 c.val).toNat = c.val := toNat_byte (by omega)
  simp [coilArgument, parseLayout, splitFields, beNat_singleton, hb, coilOf_val]

theorem coilArgument_malformed {args : List Byte} (h : args.length ≠ 1 ∨ 16 ≤ argument args 0) :
    coilArgument args = none := by
  unfold coilArgument
  split
  · rename_i n hp
    have h0 : n = argument args 0 := fieldOr_byte (d := 0) hp (i := 0) (by simp) rfl rfl
    rcases h with h | h
    · exact absurd (parseLayout_length hp).2.2 h
    · exact coilOf_eq_none (h0 ▸ h)
  · rfl

/-- A rule that ENABLE-COIL asks for stands in the table (R17). -/
theorem any_heatingRule_iff (rules : List (Option OverrideRule)) (c : CoilId) :
    (rules.filterMap id).any (heatingRule c) = true ↔
      ∃ q, some q ∈ rules ∧ q.coil = c ∧ (q.tag = .heatingValve ∨ q.tag = .pump) ∧ q.level ≠ .t := by
  have hlevel (l : RuleLevel) : (l = .w ∨ l = .g) ↔ l ≠ .t := by cases l <;> decide
  simp only [List.any_eq_true, List.mem_filterMap, id_eq, exists_eq_right, heatingRule, Bool.and_eq_true,
    Bool.or_eq_true, beq_iff_eq, hlevel, and_assoc]

theorem completeForService_iff (s : State) (c : CoilId) :
    s.completeForService c = true ↔
      (s.coil c).cfg.faceQuorum ≤ (s.ownedBy c Role.isFace).length ∧
      ∃ q, some q ∈ s.rules ∧ q.coil = c ∧ (q.tag = .heatingValve ∨ q.tag = .pump) ∧ q.level ≠ .t := by
  rw [State.completeForService, Bool.and_eq_true, any_heatingRule_iff, State.hasFaceQuorum, decide_eq_true_eq]

/-- ENABLE-COIL of a coil, by its state and by R17's two tests. -/
theorem serveEnableCoil_coil (s : State) (c : CoilId) :
    serveEnableCoil [BitVec.ofNat 8 c.val] s =
      if (s.coil c).state ≠ .offline then .accept s false
      else if ¬ s.completeForService c then .refuse s .incomplete
      else .accept ((s.setCoil c { s.coil c with enabled := true }).enterStartup c) false := by
  unfold serveEnableCoil
  rw [coilArgument_byte]

/-- Settles O38: ENABLE-COIL by the state of its coil and R17's two tests. -/
theorem enableCoilEntersStartup : Obligations.EnableCoilEntersStartup := by
  intro s src c hroom hrestart hlen faces heating
  have hserve := serveEnableCoil_coil s.reservePlace c
  rw [show s.reservePlace.coil c = s.coil c from rfl] at hserve
  have hcomplete : s.reservePlace.completeForService c = true ↔ (s.coil c).cfg.faceQuorum ≤ faces ∧ heating :=
    completeForService_iff s c
  have hplain {args : List Byte} {r : ResultCode} (h : serveEnableCoil args s.reservePlace =
      { state := s.reservePlace, result := some r, data := [], role := .plain }) :
      exec (.enableCoil src args) s = .next (s.replied src 0x07#8 r.code []) :=
    congrArg Host.Outcome.next (takeAdmin_answered hroom hrestart (Or.inl rfl) h rfl)
  refine ⟨fun hoff hfaces hheating => ?_, fun hoff hlacks => ?_, fun hon => ?_, fun args hbad => ?_⟩
  · rw [if_neg (not_not.mpr hoff), if_neg (not_not.mpr (hcomplete.mpr ⟨hfaces, hheating⟩))] at hserve
    refine ⟨_, congrArg Host.Outcome.next
      (State.takeAdmin_served s src 0x07#8 false (serveEnableCoil [BitVec.ofNat 8 c.val]) hroom hrestart (Or.inl rfl)), ?_⟩
    have hentered := (s.reservePlace.enterStartup_entered c { s.coil c with enabled := true } (by rw [show s.reservePlace.coils = s.coils from rfl, hlen]; exact c.isLt)).fillReserved
      { telegram := s.adminReply src 0x07#8 .accepted [], role := .plain }
    rw [State.reservePlace_fillReserved] at hentered
    rw [hserve]
    exact hentered
  · refine hplain (r := .incomplete) (hserve.trans ?_)
    rw [if_neg (not_not.mpr hoff), if_pos]
    · rfl
    · rw [hcomplete]
      rintro ⟨hfaces, hheating⟩
      exact hlacks.elim (fun h => by omega) (fun h => h hheating)
  · exact hplain (r := .accepted) (hserve.trans (if_pos hon))
  · refine hplain (r := .malformed) ?_
    unfold serveEnableCoil
    rw [coilArgument_malformed hbad]
    rfl

end Sys2Proof.Machine
end

section
/-! The entry of several coils into STARTUP, one after another, which power-on (O44) and RESTART (O45)
share; then all records are recomputed once (R105, R106). -/

namespace Sys2Proof.Machine

/-! ### One coil -/

/-- A coil record after its entry into STARTUP (R68). -/
def Coil.atStartup (k : Coil) (clock : Nat) : Coil :=
  { k.started with state := .startup, cause := none, entryTime := clock, dwell := 0 }

/-- What is set at an index plays no part where a function of it is what it was. -/
theorem any_set_of_eq {α : Type} {f : α → Bool} {l : List α} {i : Nat} {a b : α} (ha : l[i]? = some a)
    (hf : f b = f a) : (l.set i b).any f = l.any f := by
  have hmap : (l.set i b).map f = l.map f := by
    obtain ⟨hi, rfl⟩ := List.getElem?_eq_some_iff.mp ha
    rw [List.map_set, hf, ← List.getElem_map f (h := by rwa [List.length_map]), List.set_getElem_self]
  have hany (l : List α) : l.any f = (l.map f).any id := by rw [List.any_map]; rfl
  rw [hany, hany, hmap]

theorem ContactBlock.driveAfter_of_driven (b : ContactBlock) (period : Nat) :
    b.driveAfter period b.driven = b := if_pos rfl

theorem recomputeRecord_reinitialised (rules : List (Option OverrideRule)) (levels : List Nat) (clock : Nat)
    (r : ActuatorRecord) : (recomputeRecord rules levels clock r).reinitialised = r.reinitialised := by
  unfold recomputeRecord
  split <;> rfl

section
variable {s t u : State}

theorem sameOutsideProtection.eq (h : sameOutsideProtection s t) :
    t = { s with coils := t.coils, heldLevels := t.heldLevels, records := t.records,
                 contacts := t.contacts, notice := t.notice } := h

theorem sameOutsideProtection.plantClock (h : sameOutsideProtection s t) : t.plantClock = s.plantClock :=
  by rw [h.eq]

theorem State.getElem?_coils {c : CoilId} (h : c.val < s.coils.length) : s.coils[c.val]? = some (s.coil c) := by
  simp [State.coil, h]

/-- `t` is `s` after the coils of a set have entered STARTUP one after another, as far as power-on and
RESTART ask. -/
structure Starts (s t : State) (which : CoilId → Prop) : Prop where
  frame : sameOutsideProtection s t
  length : t.coils.length = s.coils.length
  coilIn : ∀ c, which c → t.coil c = (s.coil c).atStartup s.plantClock
  coilOut : ∀ c, ¬ which c → t.coil c = s.coil c
  marks : t.notice.coils.length = s.notice.coils.length
  markIn : ∀ c, which c → c.val < s.notice.coils.length → t.notice.coils[c.val]? = some .set
  markOut : ∀ c, ¬ which c → t.notice.coils[c.val]? = s.notice.coils[c.val]?
  moderation : t.notice.moderationTicks = s.notice.moderationTicks
  inputs : t.contacts.inputs = s.contacts.inputs
  settled : t.contacts.settled = s.contacts.settled
  records : t.records.map (Option.map ActuatorRecord.reinitialised) =
    s.records.map (Option.map ActuatorRecord.reinitialised)
  drive : (∀ c, which c → (s.coil c).state.latched = false) → t.wantsDrive = s.wantsDrive
  quiet : (∀ c, which c → (s.coil c).state.latched = false) → s.contacts.driven = s.wantsDrive →
    t.contacts = s.contacts ∧ t.notice = { s.notice with coils := t.notice.coils }

theorem Starts.refl (s : State) : Starts s s (fun _ => False) where
  frame := sameOutsideProtection_refl s
  length := rfl
  coilIn := fun _ h => h.elim
  coilOut := fun _ _ => rfl
  marks := rfl
  markIn := fun _ h => h.elim
  markOut := fun _ _ => rfl
  moderation := rfl
  inputs := rfl
  settled := rfl
  records := rfl
  drive := fun _ => rfl
  quiet := fun _ _ => ⟨rfl, rfl⟩

theorem Starts.congr {a b : CoilId → Prop} (h : Starts s t a) (hab : ∀ c, a c ↔ b c) : Starts s t b :=
  (funext fun c => propext (hab c) : a = b) ▸ h

/-- An unlatched coil that enters STARTUP leaves the condition of the trip output as it is (R114). -/
theorem Entered.wantsDrive {c : CoilId} (h : Entered s t c (s.coil c).started .startup none)
    (hc : c.val < s.coils.length) (hk : (s.coil c).state.latched = false) : t.wantsDrive = s.wantsDrive := by
  have hcoils : t.coils.any Coil.drives = s.coils.any Coil.drives := by
    rw [h.coils]
    refine any_set_of_eq (State.getElem?_coils hc) ?_
    rw [Coil.drives, Coil.drives, hk, Bool.and_false]
    exact Bool.and_false _
  have hfallback : t.fallback = s.fallback := by rw [h.frame.eq]
  obtain ⟨hi, hs, -⟩ := ContactBlock.driveAfter_inputs s.contacts s.globals.plantTripRelease t.wantsDrive
  rw [State.wantsDrive, hcoils, hfallback, ContactBlock.anyReadsOpen, h.contacts, hi, hs]
  rfl

theorem Starts.one {c : CoilId} (hc : c.val < s.coils.length) : Starts s (s.enterStartup c) (· = c) := by
  have h := s.enterStartup_entered c (s.coil c) hc
  rw [State.setCoil_coil] at h
  generalize s.enterStartup c = t at h
  obtain ⟨hi, hs, -⟩ := ContactBlock.driveAfter_inputs s.contacts s.globals.plantTripRelease t.wantsDrive
  have hnotice : t.notice.coils = s.notice.coils.set c.val .set := by rw [h.notice]
  have hcoil (d : CoilId) : t.coil d = (s.setCoil c ((s.coil c).atStartup s.plantClock)).coil d := by
    rw [State.coil, h.coils]
    rfl
  refine ⟨h.frame, ?_, ?_, ?_, ?_, ?_, ?_, ?_, ?_, ?_, ?_, ?_, ?_⟩
  · rw [h.coils, List.length_set]
  · rintro d rfl
    rw [hcoil, State.coil_setCoil _ _ _ hc]
  · intro d hd
    rw [hcoil, State.coil_setCoil_ne _ _ hd]
  · rw [hnotice, List.length_set]
  · rintro d rfl hd
    rw [hnotice, List.getElem?_set_self hd]
  · intro d hd
    rw [hnotice, List.getElem?_set_ne (fun he => hd (Fin.ext he.symm))]
  · rw [h.notice]
  · rw [h.contacts, hi]
  · rw [h.contacts, hs]
  · rw [h.records]
    split
    · rfl
    · rw [State.recordsAfterLevel, List.map_map]
      refine List.map_congr_left fun o _ => ?_
      cases o with
      | none => rfl
      | some r =>
        simp only [Function.comp_apply, Option.map_some]
        split
        · rw [recomputeRecord_reinitialised]
        · rfl
  · exact fun hk => h.wantsDrive hc (hk c rfl)
  · intro hk hd
    have hcontacts : t.contacts = s.contacts := by
      rw [h.contacts, h.wantsDrive hc (hk c rfl), ← hd, ContactBlock.driveAfter_of_driven]
    refine ⟨hcontacts, ?_⟩
    conv_lhs => rw [h.notice]
    rw [hnotice, hcontacts, plantTripEventAfter, if_pos rfl]
    rfl

/-! ### Several coils -/

theorem Starts.trans {a b : CoilId → Prop} (h : Starts s t a) (h' : Starts t u b)
    (hab : ∀ c, a c → ¬ b c) : Starts s u (fun c => a c ∨ b c) := by
  have hcoil {c : CoilId} (hb : b c) : t.coil c = s.coil c := h.coilOut c fun ha => hab c ha hb
  have hlatched (hk : ∀ c, a c ∨ b c → (s.coil c).state.latched = false) :
      (∀ c, a c → (s.coil c).state.latched = false) ∧ ∀ c, b c → (t.coil c).state.latched = false :=
    ⟨fun c hc => hk c (Or.inl hc), fun c hc => by rw [hcoil hc]; exact hk c (Or.inr hc)⟩
  refine ⟨sameOutsideProtection_trans h.frame h'.frame, h'.length.trans h.length, ?_, ?_,
    h'.marks.trans h.marks, ?_, ?_, h'.moderation.trans h.moderation, h'.inputs.trans h.inputs,
    h'.settled.trans h.settled, h'.records.trans h.records, ?_, ?_⟩
  · rintro c (ha | hb)
    · rw [h'.coilOut c (hab c ha), h.coilIn c ha]
    · rw [h'.coilIn c hb, hcoil hb, h.frame.plantClock]
  · intro c hn
    rw [h'.coilOut c (fun hb => hn (Or.inr hb)), h.coilOut c (fun ha => hn (Or.inl ha))]
  · rintro c (ha | hb) hc
    · rw [h'.markOut c (hab c ha), h.markIn c ha hc]
    · exact h'.markIn c hb (by rw [h.marks]; exact hc)
  · intro c hn
    rw [h'.markOut c (fun hb => hn (Or.inr hb)), h.markOut c (fun ha => hn (Or.inl ha))]
  · intro hk
    obtain ⟨hka, hkb⟩ := hlatched hk
    exact (h'.drive hkb).trans (h.drive hka)
  · intro hk hd
    obtain ⟨hka, hkb⟩ := hlatched hk
    obtain ⟨hc, hn⟩ := h.quiet hka hd
    obtain ⟨hc', hn'⟩ := h'.quiet hkb (by rw [hc, h.drive hka, hd])
    refine ⟨hc'.trans hc, ?_⟩
    conv_lhs => rw [hn', hn]

/-- The coils of a list that meet a condition enter STARTUP, each tested when its turn comes. -/
theorem Starts.foldl {f : State → CoilId → State} {p : Coil → Bool}
    (hf : ∀ s c, f s c = if p (s.coil c) then s.enterStartup c else s) {l : List CoilId} (hl : l.Nodup)
    (s : State) (hlen : s.coils.length = 16) :
    Starts s (l.foldl f s) (fun c => c ∈ l ∧ p (s.coil c) = true) := by
  induction l generalizing s with
  | nil => exact (Starts.refl s).congr fun c => by simp
  | cons c l ih =>
    obtain ⟨hc, hl⟩ := List.nodup_cons.mp hl
    have hone : Starts s (f s c) (fun d => d = c ∧ p (s.coil d) = true) := by
      rw [hf]
      split
      · rename_i hp
        exact (Starts.one (by omega)).congr fun d => ⟨fun hd => ⟨hd, hd ▸ hp⟩, And.left⟩
      · rename_i hp
        exact (Starts.refl s).congr fun d => ⟨False.elim, fun ⟨hd, hpd⟩ => hp (hd ▸ hpd)⟩
    have hrest := ih hl (f s c) (by rw [hone.length, hlen])
    refine (hone.trans hrest ?_).congr fun d => ?_
    · rintro d ⟨rfl, -⟩ ⟨hd, -⟩
      exact hc hd
    · by_cases hd : d = c
      · subst hd
        simp [hc]
      · rw [hone.coilOut d (fun h => hd h.1)]
        simp [hd]

theorem Starts.allCoils {f : State → CoilId → State} {p : Coil → Bool}
    (hf : ∀ s c, f s c = if p (s.coil c) then s.enterStartup c else s) (s : State)
    (hlen : s.coils.length = 16) : Starts s (coilIds.foldl f s) (fun c => p (s.coil c) = true) :=
  (Starts.foldl hf (List.nodup_finRange 16) s hlen).congr fun c => by simp

/-! ### The records afterwards -/

theorem State.takeLevelsAndRecompute_eq (s : State) : s.takeLevelsAndRecompute = { s with
    heldLevels := s.coils.map (fun k => k.state.level),
    records := s.records.map (Option.map
      (recomputeRecord s.rules (s.coils.map (fun k => k.state.level)) s.plantClock)) } := by
  simp only [State.takeLevelsAndRecompute, State.recomputeWhere, if_true]
  rfl

/-- The state after the coils have entered STARTUP and all records have been recomputed once (R105, R106). -/
theorem Starts.recomputed {which : CoilId → Prop} (h : Starts s t which)
    (records : List (Option ActuatorRecord)) :
    (t.withRecords records).takeLevelsAndRecompute = { s with
      coils := t.coils, contacts := t.contacts, notice := t.notice,
      heldLevels := t.coils.map (fun k => k.state.level),
      records := records.map (Option.map
        (recomputeRecord s.rules (t.coils.map (fun k => k.state.level)) s.plantClock)) } := by
  rw [State.takeLevelsAndRecompute_eq]
  conv_lhs => rw [h.frame.eq]
  rfl

/-- The recomputation of a record that starts again (R14, R86, R106): a PROTECT need under a constraint. -/
theorem recomputeRecord_of_reinitialised (rules : List (Option OverrideRule)) (levels : List Nat)
    (clock : Nat) (r : ActuatorRecord) : recomputeRecord rules levels clock r.reinitialised =
      let constraint := constraintOf (activeRules rules levels r.station r.channel)
      { newRecord r.station r.channel with
        cmdLast := r.cmdLast, constraint := constraint,
        need := if constraint.isSome then .protect clock else .none,
        refreshTimer := constraint.map Constraint.refreshPeriod } := by
  unfold recomputeRecord
  rw [show activeRules rules levels r.reinitialised.station r.reinitialised.channel =
    activeRules rules levels r.station r.channel from rfl]
  cases constraintOf (activeRules rules levels r.station r.channel) <;> rfl

end

end Sys2Proof.Machine
end

section
/-! Power-on: without an image that passes its check (O43), and with one (O44). -/

namespace Sys2Proof.Machine

/-! ### The image (R184, R186) -/

theorem checkOf_eq_imageCheck (m : ImageContents) : checkOf m = imageCheck m := by
  simp only [checkOf, imageCheck, imageBytes, List.append_assoc]

theorem passing_iff_passesWith (x : Store) (m : ImageContents) : x.passing = some m ↔ passesWith x m := by
  rw [Store.passing_eq_some, passesWith, checkOf_eq_imageCheck]

theorem storeAtPowerOn_idle {s : State} (h : s.commit = none) : s.storeAtPowerOn = s.store := by
  rw [State.storeAtPowerOn, h]
  rfl

/-- A write that a power-on cuts short leaves a failed image (R186). -/
theorem storeAtPowerOn_cutShort {s : State} (h : s.commit ≠ none) :
    s.storeAtPowerOn = { condition := .failed, contents := none, checkWord := none } :=
  if_pos (Option.isSome_iff_ne_none.mpr h)

theorem exec_powerOnReset_fallback {s : State} (straps : BitVec 5) (h : s.storeAtPowerOn.passing = none) :
    exec (.powerOnReset straps) s = .next (startedInFallback s straps s.storeAtPowerOn) := by
  have hexec : exec (.powerOnReset straps) s = .next (
      match s.storeAtPowerOn.passing with
      | some image => s.powerOnValid straps image
      | none => s.powerOnFallback straps) := rfl
  rw [hexec, h]
  rfl

/-- Settles O43: no image passes at a power-on that cuts a write short, nor where none passes its check. -/
theorem powerOnWithoutImageIsFallback : Obligations.PowerOnWithoutImageIsFallback := by
  refine ⟨fun s straps h => ⟨s.storeAtPowerOn, exec_powerOnReset_fallback straps ?_, storeAtPowerOn_idle,
    storeAtPowerOn_cutShort⟩, fun s => rfl⟩
  rw [Option.eq_none_iff_forall_ne_some]
  intro m hm
  obtain ⟨hidle, hpasses⟩ := storeAtPowerOn_passing hm
  rcases h with h | h
  · exact h hidle
  · exact h m ((passing_iff_passesWith _ _).mp hpasses)

theorem exec_powerOnReset_valid {s : State} (straps : BitVec 5) {m : ImageContents} (hidle : s.commit = none)
    (h : passesWith s.store m) : exec (.powerOnReset straps) s = .next (s.powerOnValid straps m) := by
  have hexec : exec (.powerOnReset straps) s = .next (
      match s.storeAtPowerOn.passing with
      | some image => s.powerOnValid straps image
      | none => s.powerOnFallback straps) := rfl
  rw [hexec, storeAtPowerOn_idle hidle, (passing_iff_passesWith _ _).mpr h]

/-! ### The pairs of the rules, in the order in which they first occur (R20) -/

/-- The pairs of the records rebuilt from a rule table. -/
def builtPairs (rules : List (Option OverrideRule)) : List (Nat × Nat) :=
  (builtRecords (rules.filterMap id)).map recordKey

theorem mem_builtPairs {rules : List (Option OverrideRule)} {pair : Nat × Nat} :
    pair ∈ builtPairs rules ↔ ∃ q, some q ∈ rules ∧ (q.station, q.channel) = pair := by
  rw [builtPairs, mem_builtRecords_key]
  simp

/-- One more place of the table adds its rule's pair at the end, if it has a rule and the pair is new. -/
theorem builtPairs_append (rules : List (Option OverrideRule)) (o : Option OverrideRule) :
    builtPairs (rules ++ [o]) = builtPairs rules ∨
    ∃ r, o = some r ∧ (r.station, r.channel) ∉ builtPairs rules ∧
      builtPairs (rules ++ [o]) = builtPairs rules ++ [(r.station, r.channel)] := by
  cases o with
  | none => exact Or.inl (by simp [builtPairs])
  | some r =>
    have happ : (rules ++ [some r]).filterMap id = rules.filterMap id ++ [r] := by simp
    unfold builtPairs
    rw [happ, builtRecords_append]
    split
    · exact Or.inl rfl
    · rename_i hnew
      refine Or.inr ⟨r, rfl, fun hmem => hnew ?_, List.map_append⟩
      obtain ⟨x, hx, hk⟩ := List.mem_map.mp hmem
      exact List.any_eq_true.mpr ⟨x, hx, (hasKey_iff x _ _).mpr hk⟩

/-- A place of a rule table names a pair. -/
def placeNames (rules : List (Option OverrideRule)) (a : Nat) (pair : Nat × Nat) : Prop :=
  ∃ q, rules[a]? = some (some q) ∧ (q.station, q.channel) = pair

theorem placeNames_lt {rules : List (Option OverrideRule)} {a : Nat} {pair : Nat × Nat}
    (h : placeNames rules a pair) : a < rules.length := by
  obtain ⟨q, hq, -⟩ := h
  exact (List.getElem?_eq_some_iff.mp hq).1

theorem placeNames_append {rules rest : List (Option OverrideRule)} {a : Nat} {pair : Nat × Nat}
    (ha : a < rules.length) : placeNames (rules ++ rest) a pair ↔ placeNames rules a pair := by
  unfold placeNames
  rw [List.getElem?_append_left ha]

theorem mem_builtPairs_iff_placeNames {rules : List (Option OverrideRule)} {pair : Nat × Nat} :
    pair ∈ builtPairs rules ↔ ∃ a, placeNames rules a pair := by
  rw [mem_builtPairs]
  constructor
  · rintro ⟨q, hq, hk⟩
    obtain ⟨a, ha⟩ := List.mem_iff_getElem?.mp hq
    exact ⟨a, q, ha, hk⟩
  · rintro ⟨a, q, ha, hk⟩
    exact ⟨q, List.mem_of_getElem? ha, hk⟩

/-- Of two pairs the earlier one has a place before every place of the later one. -/
theorem builtPairs_ordered (rules : List (Option OverrideRule)) {i j : Nat} {early late : Nat × Nat}
    (hij : i < j) (hi : (builtPairs rules)[i]? = some early) (hj : (builtPairs rules)[j]? = some late) :
    ∃ a, placeNames rules a early ∧ ∀ b, placeNames rules b late → a < b := by
  induction rules using List.reverseRecOn with
  | nil => cases hi
  | append_singleton rules o ih =>
    have hstep : ∃ a, placeNames rules a early ∧ ∀ b, placeNames rules b late → a < b := by
      rcases builtPairs_append rules o with he | ⟨r, -, hnew, he⟩
      · rw [he] at hi hj
        exact ih hi hj
      · rw [he] at hi hj
        have hlen := (List.getElem?_eq_some_iff.mp hj).1
        rw [List.length_append, List.length_singleton] at hlen
        rw [List.getElem?_append_left (by omega)] at hi
        by_cases hlast : j < (builtPairs rules).length
        · rw [List.getElem?_append_left hlast] at hj
          exact ih hi hj
        · have hj' : j = (builtPairs rules).length := by omega
          rw [hj', List.getElem?_concat_length] at hj
          cases hj
          obtain ⟨a, ha⟩ := mem_builtPairs_iff_placeNames.mp (List.mem_of_getElem? hi)
          exact ⟨a, ha, fun b hb => absurd (mem_builtPairs_iff_placeNames.mpr ⟨b, hb⟩) hnew⟩
    obtain ⟨a, ha, hbefore⟩ := hstep
    have halt := placeNames_lt ha
    refine ⟨a, (placeNames_append halt).mpr ha, fun b hb => ?_⟩
    by_cases hlt : b < rules.length
    · exact hbefore b ((placeNames_append hlt).mp hb)
    · omega

theorem firstOccurring_builtPairs (rules : List (Option OverrideRule)) :
    firstOccurring rules (builtPairs rules) := by
  refine ⟨builtRecords_nodup _, fun pair => mem_builtPairs, fun i j early late hij hi hj => ?_⟩
  obtain ⟨a, ⟨q, hq, hk⟩, hbefore⟩ := builtPairs_ordered rules hij hi hj
  exact ⟨a, q, hq, hk, fun b q' hq' hk' => hbefore b ⟨q', hq', hk'⟩⟩

end Sys2Proof.Machine
end

section
/-! Power-on with an image that passes its check (O44). -/

namespace Sys2Proof.Machine

section
variable {s t : State} {p : Coil → Bool}

/-- The coil table after the coils that meet a condition have entered STARTUP. -/
theorem Starts.coils_eq (h : Starts s t (fun c => p (s.coil c) = true)) (hlen : s.coils.length = 16) :
    t.coils = s.coils.map (fun k => if p k then k.atStartup s.plantClock else k) := by
  refine List.ext_getElem? fun i => ?_
  rw [List.getElem?_map]
  by_cases hi : i < 16
  · have hs : s.coils[i]? = some (s.coil ⟨i, hi⟩) := State.getElem?_coils (c := ⟨i, hi⟩) (by rw [hlen]; exact hi)
    have ht : t.coils[i]? = some (t.coil ⟨i, hi⟩) :=
      State.getElem?_coils (c := ⟨i, hi⟩) (by rw [h.length, hlen]; exact hi)
    rw [hs, ht, Option.map_some]
    split
    · rename_i hp
      rw [h.coilIn _ hp]
    · rename_i hp
      rw [h.coilOut _ hp]
  · rw [List.getElem?_eq_none (by rw [h.length]; omega), List.getElem?_eq_none (by omega)]
    rfl

/-- The pending set after the coils that meet a condition have entered STARTUP, none pending before. -/
theorem Starts.marks_eq (h : Starts s t (fun c => p (s.coil c) = true)) (hlen : s.coils.length = 16)
    (hclear : s.notice.coils = List.replicate 16 .clear) :
    t.notice.coils = s.coils.map (fun k => if p k then .set else .clear) := by
  have hmarks : s.notice.coils.length = 16 := by rw [hclear, List.length_replicate]
  refine List.ext_getElem? fun i => ?_
  rw [List.getElem?_map]
  by_cases hi : i < 16
  · have hs : s.coils[i]? = some (s.coil ⟨i, hi⟩) := State.getElem?_coils (c := ⟨i, hi⟩) (by rw [hlen]; exact hi)
    rw [hs, Option.map_some]
    split
    · rename_i hp
      exact h.markIn ⟨i, hi⟩ hp (by rw [hmarks]; exact hi)
    · rename_i hp
      rw [h.markOut ⟨i, hi⟩ hp, hclear]
      exact List.getElem?_replicate_of_lt hi
  · rw [List.getElem?_eq_none (by rw [h.marks]; omega), List.getElem?_eq_none (by omega)]
    rfl

end

theorem recordKey_recomputeRecord (rules : List (Option OverrideRule)) (levels : List Nat) (clock : Nat)
    (r : ActuatorRecord) : recordKey (recomputeRecord rules levels clock r) = recordKey r := by
  unfold recomputeRecord
  split <;> rfl

/-- The rebuilt records stand at the indices from 0, in the order of their pairs (R20). -/
theorem rebuildRecords_keys {rules : List (Option OverrideRule)} (h : rules.length = 48) (levels : List Nat)
    (clock : Nat) : ((rebuildRecords rules).map (Option.map (recomputeRecord rules levels clock))).map
      (Option.map recordKey) =
        (builtPairs rules).map some ++ List.replicate (48 - (builtPairs rules).length) none := by
  have hkey : (Option.map recordKey) ∘ (Option.map (recomputeRecord rules levels clock)) =
      Option.map recordKey := by
    funext o
    simp only [Function.comp_apply, Option.map_map]
    congr 1
    funext r
    exact recordKey_recomputeRecord rules levels clock r
  rw [List.map_map, hkey, rebuildRecords_padded h]
  simp [builtPairs]

/-- A rebuilt record after its recomputation (R105). -/
theorem rebuildRecords_recomputed {rules : List (Option OverrideRule)} {levels : List Nat} {clock : Nat}
    {r : ActuatorRecord}
    (h : some r ∈ (rebuildRecords rules).map (Option.map (recomputeRecord rules levels clock))) :
    let constraint := constraintOf (activeRules rules levels r.station r.channel)
    r = { newRecord r.station r.channel with
          constraint := constraint, need := if constraint.isSome then .protect clock else .none,
          refreshTimer := constraint.map Constraint.refreshPeriod } := by
  obtain ⟨x, hx, rfl⟩ := mem_map_some h
  obtain ⟨q, -, rfl⟩ := mem_rebuildRecords hx
  rw [show ActuatorRecord.fresh q.station q.channel =
    (ActuatorRecord.fresh q.station q.channel).reinitialised from rfl, recomputeRecord_of_reinitialised]
  rfl

/-! ### The coils at power-on -/

section
variable (s : State) (straps : BitVec 5) (m : ImageContents)

/-- At power-on no coil is latched and FALLBACK is clear, so the trip output is not driven (R114). -/
theorem powerOnTables_undriven :
    (s.powerOnTables straps m).contacts.driven = (s.powerOnTables straps m).wantsDrive := by
  have hcoils : (s.powerOnTables straps m).coils.any Coil.drives = false := by
    rw [List.any_eq_false]
    intro k hk
    obtain ⟨q, -, rfl⟩ := List.mem_map.mp hk
    simp [Coil.drives, Coil.atPowerOn, CoilState.latched]
  rw [State.wantsDrive, hcoils]
  rfl

theorem powerOnTables_coil_unlatched (c : CoilId) :
    ((s.powerOnTables straps m).coil c).state.latched = false := by
  rcases (s.powerOnTables straps m).coil_mem_or c with h | h
  · obtain ⟨q, -, hq⟩ := List.mem_map.mp h
    rw [← hq]
    rfl
  · rw [h]
    rfl

/-- Power-on with a valid image, in the terms of its contents. -/
theorem powerOnValid_eq (hm : m.coils.length = 16) :
    let coils := m.coils.map (fun q => let k := bootCoil q.1 q.2
      if q.2 then { k.started with state := .startup } else k)
    s.powerOnValid straps m = { s.powerOnTables straps m with
      coils := coils,
      notice := bootNotice (m.coils.map (fun q => if q.2 then .set else .clear)) .clear,
      heldLevels := coils.map (fun k => k.state.level),
      records := (rebuildRecords m.rules).map (Option.map
        (recomputeRecord m.rules (coils.map (fun k => k.state.level)) 0)) } := by
  have hlen : (s.powerOnTables straps m).coils.length = 16 := by
    rw [← hm]
    exact List.length_map _
  have hstarts := Starts.allCoils (f := State.bringUp) (p := Coil.enabled) (fun _ _ => rfl)
    (s.powerOnTables straps m) hlen
  have hcoils := hstarts.coils_eq hlen
  have hmarks := hstarts.marks_eq hlen rfl
  obtain ⟨hcontacts, hnotice⟩ := hstarts.quiet (fun c _ => powerOnTables_coil_unlatched s straps m c)
    (powerOnTables_undriven s straps m)
  have hrules := congrArg State.rules hstarts.frame.eq
  unfold State.powerOnValid
  rw [hstarts.recomputed, hrules, hnotice, hcontacts, hmarks, hcoils]
  simp only [State.powerOnTables, List.map_map]
  rfl

end

/-- Settles O44: power-on with a valid image, its coils brought up one after another. -/
theorem powerOnTakesTheImage : Obligations.PowerOnTakesTheImage := by
  intro s straps m hidle hpasses hshape
  have hpoints : m.points.map (Option.map (fun p => startEntry p 0)) =
      m.points.map (Option.map (fun p => freshEntry p 0)) := by simp only [startEntry_eq_fresh]
  have hlevels : (m.coils.map (fun q => let k := bootCoil q.1 q.2
      if q.2 then { k.started with state := .startup } else k)).map (fun k => k.state.level) =
      m.coils.map (fun q => if q.2 then 2 else 0) := by
    rw [List.map_map]
    refine List.map_congr_left fun q _ => ?_
    cases hq : q.2 <;> simp [hq, bootCoil, CoilState.level]
  refine ⟨s.powerOnValid straps m, builtPairs m.rules, exec_powerOnReset_valid straps hidle hpasses, ?_⟩
  rw [powerOnValid_eq s straps m hshape.coils]
  exact ⟨rfl, rfl, rfl, storeAtPowerOn_idle hidle, rfl, rfl, rfl, rfl, rfl, rfl, rfl, rfl, rfl, rfl, rfl, rfl,
    rfl, rfl, hpoints, rfl, hlevels, firstOccurring_builtPairs m.rules, rebuildRecords_keys hshape.rules _ _,
    fun r hr => rebuildRecords_recomputed hr⟩

end Sys2Proof.Machine
end

section
/-! RESTART (O45): its acceptance, and its effect when the reply leaves. -/

namespace Sys2Proof.Machine

/-! ### The request (R175) -/

/-- RESTART without arguments: accepted, its reply the one that the restart waits for. -/
theorem exec_restart_accepted {s : State} (src : Byte) (hs : s.takesRequests) :
    exec (.restart src []) s = .next { s with
      restartPending := true,
      trunkOut := { s.trunkOut with filled := s.trunkOut.filled ++
        [{ telegram := s.replyTo src 0x0E#8 0x00#8 [], role := .restart }] } } := by
  refine congrArg Host.Outcome.next ((State.takeAdmin_served s src 0x0E#8 true (serveRestart [])
    hs.1 hs.2.1 (Or.inr hs.2.2)).trans ?_)
  have hserve : serveRestart [] s.reservePlace =
      { state := (s.withRestartPending true).reservePlace, result := some .accepted, data := [],
        role := .restart } := rfl
  rw [hserve]
  exact State.reservePlace_fillReserved _ _

theorem exec_restart_malformed {s : State} (src : Byte) {args : List Byte} (hs : s.takesRequests)
    (h : args ≠ []) : exec (.restart src args) s = .next (s.replied src 0x0E#8 0x13#8 []) := by
  refine congrArg Host.Outcome.next (takeAdmin_refused (r := .malformed) hs ?_)
  rw [serveRestart, if_neg h]

/-! ### The effect (R21, R37, R79, R106, R151, R168, R183) -/

/-- A coil that a RESTART takes to STARTUP (R79). -/
def restarts (k : Coil) : Bool := k.state != .offline && !k.state.latched

theorem restarts_iff (k : Coil) :
    restarts k = true ↔ ¬ (k.state = .offline ∨ k.state = .trip ∨ k.state = .lockout) := by
  unfold restarts
  cases k.state <;> decide

theorem latched_of_restarts {k : Coil} (h : restarts k = true) : k.state.latched = false := by
  unfold restarts at h
  simpa using (Bool.and_eq_true_iff.mp h).2

theorem State.restartCoil_eq (s : State) (c : CoilId) :
    s.restartCoil c = if restarts (s.coil c) then s.enterStartup c else s := by
  unfold State.restartCoil restarts
  cases (s.coil c).state <;> rfl

theorem uncarry_eq : Mark.uncarry = fun m => if m = .carried then .set else m := by
  funext m
  cases m <;> rfl

theorem uncarry_eq_ite (m : Mark) : m.uncarry = if m ≠ .clear then .set else .clear := by
  cases m <;> rfl

theorem map_map_free {α β γ : Type} {f : α → β} {g : β → γ} {table : List (Option α)} {i : Nat}
    (h : table[i]? = some none) : ((table.map (Option.map f)).map (Option.map g))[i]? = some none := by
  simp [h]

theorem map_map_entry {α β γ : Type} {f : α → β} {g : β → γ} {table : List (Option α)} {i : Nat} {a : α}
    (h : table[i]? = some (some a)) :
    ((table.map (Option.map f)).map (Option.map g))[i]? = some (some (g (f a))) := by
  simp [h]

/-- The part during a RESTART after its traffic and its points have started anew (R37, R151, R168). -/
def State.restartedButCoils (s : State) : State :=
  s.restartTraffic.withPoints
    (s.restartTraffic.points.map (Option.map (fun e => startEntry e.cfg s.restartTraffic.plantClock)))

/-- The coils after a RESTART (R79). -/
def State.coilsRestarted (s : State) : State := coilIds.foldl State.restartCoil s.restartedButCoils

section
variable {s : State} (hlen : s.coils.length = 16)
include hlen

theorem coilsRestarted_starts :
    Starts s.restartedButCoils s.coilsRestarted (fun c => restarts (s.coil c) = true) :=
  Starts.allCoils State.restartCoil_eq s.restartedButCoils hlen

/-- A RESTART as a whole: what its coils leave, the records reinitialised and recomputed (R106). -/
theorem restartNow_eq : s.restartNow =
    let t := s.coilsRestarted
    { s.restartedButCoils with
      coils := t.coils, contacts := t.contacts, notice := t.notice,
      heldLevels := t.coils.map (fun k => k.state.level),
      records := (s.records.map (Option.map ActuatorRecord.reinitialised)).map (Option.map
        (recomputeRecord s.rules (t.coils.map (fun k => k.state.level)) s.plantClock)) } := by
  have hstarts := coilsRestarted_starts hlen
  have hrecords : s.coilsRestarted.records.map (Option.map ActuatorRecord.reinitialised) =
      s.records.map (Option.map ActuatorRecord.reinitialised) := hstarts.records
  have hdef : s.restartNow = (s.coilsRestarted.withRecords
      (s.coilsRestarted.records.map (Option.map ActuatorRecord.reinitialised))).takeLevelsAndRecompute := rfl
  rw [hdef, hstarts.recomputed, hrecords]
  rfl

theorem coilsRestarted_coil (c : CoilId) : s.coilsRestarted.coil c =
    if (s.coil c).state = .offline ∨ (s.coil c).state = .trip ∨ (s.coil c).state = .lockout then s.coil c
    else { (s.coil c).started with
      state := .startup, cause := none, entryTime := s.plantClock, dwell := 0 } := by
  have hstarts := coilsRestarted_starts hlen
  by_cases hr : restarts (s.coil c) = true
  · rw [if_neg ((restarts_iff _).mp hr)]
    exact hstarts.coilIn c hr
  · rw [if_pos (not_not.mp (mt (restarts_iff _).mpr hr))]
    exact hstarts.coilOut c hr

theorem coilsRestarted_mark {c : CoilId} (hc : c.val < s.notice.coils.length) :
    s.coilsRestarted.notice.coils[c.val]? = some (
      if ((s.coil c).state ≠ .offline ∧ (s.coil c).state ≠ .trip ∧ (s.coil c).state ≠ .lockout) ∨
          s.notice.coils[c.val]? ≠ some .clear then .set else .clear) := by
  have hstarts := coilsRestarted_starts hlen
  have hin : ((s.coil c).state ≠ .offline ∧ (s.coil c).state ≠ .trip ∧ (s.coil c).state ≠ .lockout) ↔
      restarts (s.coil c) = true := by
    rw [restarts_iff, not_or, not_or]
  by_cases hr : restarts (s.coil c) = true
  · rw [if_pos (Or.inl (hin.mpr hr))]
    exact hstarts.markIn c hr (by rw [show s.restartedButCoils.notice.coils =
      s.notice.coils.map Mark.uncarry from rfl, List.length_map]; exact hc)
  · have hmark : s.restartedButCoils.notice.coils[c.val]? = (s.notice.coils[c.val]?).map Mark.uncarry :=
      List.getElem?_map
    rw [hstarts.markOut c hr, hmark, List.getElem?_eq_getElem hc, Option.map_some, uncarry_eq_ite]
    simp [hin, hr]

/-- Where the trip output is as R114 derives it, a RESTART leaves contacts and flags, the carried marks
removed (R120, R183). -/
theorem coilsRestarted_quiet (hd : s.contacts.driven = s.wantsDrive) :
    s.coilsRestarted.contacts = s.contacts ∧
    s.coilsRestarted.notice = { noticeMarks s.notice (fun m => if m = .carried then .set else m) with
      coils := s.coilsRestarted.notice.coils } := by
  obtain ⟨hcontacts, hnotice⟩ := (coilsRestarted_starts hlen).quiet (fun c hc => latched_of_restarts hc) hd
  refine ⟨hcontacts, hnotice.trans ?_⟩
  rw [← uncarry_eq]
  rfl

end

/-- The reply of a RESTART leaves the trunk: the RESTART takes effect (R146, R175). -/
theorem exec_complete_restart {s : State} {x : Transmission} {first : OutTelegram} {rest : List OutTelegram}
    (hx : s.trunk.tx = some x) (ho : x.owner = .listHead) (hf : s.trunkOut.filled = first :: rest)
    (hr : first.role = .restart) : exec .trunkTransmissionComplete s = .next
      (((s.updatePort .trunk Port.endTransmission).withTrunkOut
        { s.trunkOut with filled := rest }).restartNow) := by
  have hexec : exec .trunkTransmissionComplete s = .next (
      match s.trunk.tx with
      | none => s
      | some t => s.trunkLeft t) := rfl
  have hfilled : (s.updatePort .trunk Port.endTransmission).trunkOut.filled = first :: rest := hf
  rw [hexec, hx]
  simp only [State.trunkLeft, ho, State.listHeadLeft, hfilled, hr, State.replyLeft]
  rfl

/-- Settles O45: RESTART is answered at once, and takes effect when that reply leaves. -/
theorem restartWaitsForItsReply : Obligations.RestartWaitsForItsReply := by
  intro s
  refine ⟨fun src hs => exec_restart_accepted src hs, fun src args hs h => exec_restart_malformed src hs h,
    fun x first rest hlen hx ho hf hr => ⟨_, exec_complete_restart hx ho hf hr, ?_⟩⟩
  have hpoints : s.points.map (Option.map (fun e => startEntry e.cfg s.plantClock)) =
      s.points.map (Option.map (fun e => freshEntry e.cfg s.plantClock)) := by simp only [startEntry_eq_fresh]
  generalize hu : (s.updatePort .trunk Port.endTransmission).withTrunkOut
    { s.trunkOut with filled := rest } = u
  have hulen : u.coils.length = 16 := by rw [← hu]; exact hlen
  have hstarts := coilsRestarted_starts hulen
  have hcoil := coilsRestarted_coil hulen
  have hmark (c : CoilId) := coilsRestarted_mark hulen (c := c)
  have hquiet := coilsRestarted_quiet hulen
  rw [restartNow_eq hulen]
  -- The coils after the RESTART as a variable: the frame below then holds by unfolding the rest only.
  generalize u.coilsRestarted = t at hstarts hcoil hmark hquiet ⊢
  subst hu
  refine ⟨rfl, rfl, rfl, rfl, rfl, rfl, rfl, rfl, hpoints, hcoil, rfl, ?_, fun i hi => map_map_free hi,
    fun i r hi => ?_, hstarts.moderation, hmark, hstarts.inputs, hstarts.settled, hquiet,
    rfl, rfl, rfl, rfl, rfl, rfl, rfl, rfl, rfl⟩
  · rw [List.length_map, List.length_map]
    rfl
  · exact (map_map_entry hi).trans (congrArg (some <| some ·) (recomputeRecord_of_reinitialised _ _ _ r))

end Sys2Proof.Machine
end

section
/-! The plant clock, the timers of point map entries and the items of a REPORT (O3, O4, O5). -/

namespace Sys2Proof.Machine

/-- Settles O3: the clock counts below its top, and the free value of log 3 follows it. -/
theorem plantClockCountsSeconds : Obligations.PlantClockCountsSeconds := fun s =>
  ⟨fun hbelow => congrArg Host.Outcome.next (if_pos hbelow),
    fun htop => ⟨Config.plantClockPastTop s.freeCount,
      congrArg Host.Outcome.next (if_neg (Nat.not_lt.mpr htop))⟩⟩

/-! ### The timers of an entry (R27, R29) -/

section Timers
variable {s : State} {i : Nat} {e : PointEntry}

theorem updatePoint_entry (hi : s.points[i]? = some (some e)) (f : PointEntry → PointEntry) :
    s.updatePoint i f = s.withPoints (s.points.set i (some (f e))) := by
  unfold State.updatePoint
  rw [entryAt_eq_some.mpr hi]

theorem updatePoint_fixed (hi : s.points[i]? = some (some e)) {f : PointEntry → PointEntry} (hf : f e = e) :
    s.updatePoint i f = s := by
  obtain ⟨hlt, hv⟩ := List.getElem?_eq_some_iff.mp hi
  rw [updatePoint_entry hi, hf, ← hv, List.set_getElem_self]
  rfl

theorem pollExpires_reached {clock due : Nat} (hd : e.rt.pollDue = some due) (hr : due ≤ clock) :
    e.pollExpires clock = { e with rt := { e.rt with pollNeed := true, pollDue := none } } := by
  unfold PointEntry.pollExpires
  rw [hd]
  exact if_pos hr

theorem pollExpires_stopped {clock : Nat} (hd : e.rt.pollDue = none) : e.pollExpires clock = e := by
  unfold PointEntry.pollExpires
  rw [hd]

end Timers

/-- Settles O4: each expiry changes the entry at its index, or finds that its time does not stand. -/
theorem pointTimersExpire : Obligations.PointTimersExpire := by
  intro s i e hi
  have hage : exec (.pointAgeExpiry i) s = .next (s.updatePoint i.val (fun e =>
      if e.ageExpiry ≤ s.plantClock then e.goStale else e)) := rfl
  have hpoll : exec (.pollTimerExpiry i) s =
      .next (s.updatePoint i.val (fun e => e.pollExpires s.plantClock)) := rfl
  rw [hage, hpoll]
  refine ⟨fun hr => ?_, fun hr => ?_, fun due hd hr => ?_, fun hd => ?_⟩
  · rw [updatePoint_entry hi, if_pos (show e.ageExpiry ≤ s.plantClock from hr)]
    rfl
  · have hkept : (if e.ageExpiry ≤ s.plantClock then e.goStale else e) = e := if_neg (Nat.not_le.mpr hr)
    exact congrArg Host.Outcome.next (updatePoint_fixed hi hkept)
  · rw [updatePoint_entry hi, pollExpires_reached hd hr]
    rfl
  · rw [updatePoint_fixed hi (pollExpires_stopped hd)]

/-! ### A REPORT item (R25, R26, R30) -/

theorem plausible_iff (value : Int) : plausible value = true ↔ -5000 ≤ value ∧ value ≤ 6000 := by
  simp [plausible]

theorem takeItem_good (e : PointEntry) (clock : Nat) {status : Byte} {value : Int}
    (h : status = 0 ∧ plausible value = true) : (e.takeItem clock status value).rt =
      { e.rt with state := .valid, lastValue := some value, lastStatus := some status, lastSample := some clock,
                  ageBase := clock, pollNeed := false, pollDue := pollDueFrom e.cfg clock } := by
  unfold PointEntry.takeItem
  dsimp only
  rw [if_pos h, if_pos h]

theorem takeItem_bad (e : PointEntry) (clock : Nat) {status : Byte} {value : Int}
    (h : ¬ (status = 0 ∧ plausible value = true)) : (e.takeItem clock status value).rt =
      { e.rt with state := .fault, lastStatus := some status, lastSample := some clock,
                  ageBase := clock, pollNeed := false, pollDue := pollDueFrom e.cfg clock } := by
  unfold PointEntry.takeItem
  dsimp only
  rw [if_neg h, if_neg h]

/-- Settles O5: by the test of R25, which decides the state and the last value alone. -/
theorem reportItemMakesValidOrFault : Obligations.ReportItemMakesValidOrFault := by
  intro e clock status value
  refine ⟨fun hgood => ?_, fun hbad => ?_, rfl⟩
  · obtain ⟨rfl, hwindow⟩ := hgood
    exact takeItem_good e clock ⟨rfl, (plausible_iff value).mpr hwindow⟩
  · refine takeItem_bad e clock fun ⟨hstatus, hplausible⟩ => ?_
    obtain ⟨hlow, hhigh⟩ := (plausible_iff value).mp hplausible
    rcases hbad with hne | hlt | hgt
    · exact hne hstatus
    · omega
    · omega

end Sys2Proof.Machine
end

section
/-! The end of a branch transaction by its result (R163 to R166), and the completion of a telegram (R133,
R135). -/

namespace Sys2Proof.Machine

/-! ### What a result delivers (R99, R165, R166) -/

/-- The reason of the supervisor REFUSE that a result sends up the trunk, for the three results that carry no
telegram of the station (R129, R165). -/
def TxnResult.reason : TxnResult → Option RefuseReason
  | .answered _ => none
  | .refused _ => none
  | .noResponse => some .noResponse
  | .badResponse => some .badResponse
  | .lineFault => some .lineFault

section Results
variable {s : State} {phase : TxnPhase} {q : Transaction} {r : TxnResult} {reason : RefuseReason}

theorem answerUp_unanswered (rewritten : Bool) (hr : r.reason = some reason) :
    answerUp q rewritten r = refusalOf q.request reason.code := by
  cases r with
  | answered a => cases hr
  | refused a => cases hr
  | noResponse => cases hr; rfl
  | badResponse => cases hr; rfl
  | lineFault => cases hr; rfl

theorem updateRecords_eq (records : List (Option ActuatorRecord)) (station channel : Nat)
    (f : ActuatorRecord → ActuatorRecord) : updateRecords records station channel f =
      records.map (Option.map (fun x => if x.station = station ∧ x.channel = channel then f x else x)) := by
  simp [updateRecords, ActuatorRecord.hasKey]

theorem ownSetFails_eq (station channel : Nat) : s.ownSetFails station channel =
    recordMissed s station channel := by
  unfold State.ownSetFails recordMissed
  cases recordFor s.records station channel with
  | none => rfl
  | some x =>
    simp only [updateRecords_eq]
    by_cases hmiss : x.missCount = 2
    · rw [if_pos hmiss, if_pos hmiss]
      rfl
    · rw [if_neg hmiss, if_neg hmiss]
      rfl

theorem ownSetResult_unanswered (station channel : Nat) (live : Bool) (hr : r.reason = some reason) :
    s.ownSetResult station channel live r = if live then recordMissed s station channel else s := by
  rw [← ownSetFails_eq]
  cases r with
  | answered a => cases hr
  | _ => rfl

theorem deliverResult_unanswered (noResponse : Nat) (hr : r.reason = some reason) :
    afterResult (s.deliverResult q r) noResponse = endedUnanswered s q reason.code noResponse := by
  unfold State.deliverResult endedUnanswered endedInside
  cases q.origin with
  | relayed rewritten =>
    simp only [answerUp_unanswered rewritten hr]
    rfl
  | ownSet station channel live =>
    simp only [ownSetResult_unanswered station channel live hr]
    cases live <;> rfl
  | ownRead => rfl

theorem endTransaction_eq (ht : s.txn = .outstanding phase q) :
    s.endTransaction r = afterResult (s.deliverResult q r) (noResponseAfter s.noResponse r) := by
  unfold State.endTransaction
  rw [ht]
  rfl

/-- A result without a telegram of the station ends the transaction as R165 and R166 say. -/
theorem endTransaction_unanswered (ht : s.txn = .outstanding phase q) (hr : r.reason = some reason) :
    s.endTransaction r = endedUnanswered s q reason.code (noResponseAfter s.noResponse r) := by
  rw [endTransaction_eq ht, deliverResult_unanswered _ hr]

theorem judgeAnswer_receiving (ht : s.txn = .outstanding .receiving q) (t : Telegram) :
    s.judgeAnswer t = s.endTransaction (judge q.request t) := by
  unfold State.judgeAnswer
  rw [ht]

theorem judgeAnswer_other (ht : ∀ q, s.txn ≠ .outstanding .receiving q) (t : Telegram) :
    s.judgeAnswer t = s := by
  unfold State.judgeAnswer
  split
  · exact absurd ‹_› (ht _)
  · rfl

end Results

/-! ### The completion of a telegram (R133, R135) -/

theorem addressAssigned_iff (a : Byte) : addressAssigned a = true ↔ assigned a := by
  simp [addressAssigned, assigned, or_assoc]

section Completion
variable {s : State} {p : PortId} {bytes : List Byte} {last : Byte} {noise : Bool}

theorem takeChar_heard (ch : LineChar) :
    s.takeChar p ch = (s.setPort p (portHeard (s.port p) ch.noise)).takeCharIn p ch := by
  unfold State.takeChar State.countNoise
  cases ch.noise <;> cases p <;> rfl

theorem completesWith_of_completes (h : completes (s.port p) bytes last) :
    ((s.port p).listens && (s.port p).receiver.completesWith last) = true := by
  obtain ⟨htx, hwait, hreceiver, hlong, hlast⟩ := h
  simp only [Port.listens, htx, hwait, hreceiver, Receiver.completesWith, hlast]
  simp [hlong]

/-- The last character hands the assembly to the tests of R135. -/
theorem assembleNext_completes {u : State} (hlong : 4 ≤ bytes.length)
    (hlast : (bytes ++ [last]).length = 6 + (bytes.getD 3 0).toNat) :
    u.assembleNext p bytes last = u.completeTelegram p (bytes ++ [last]) := by
  have hlen : (bytes ++ [last]).getD 3 0 = bytes.getD 3 0 := List.getD_append _ _ _ _ (by omega)
  have hlater : (bytes ++ [last]).length ≠ 4 := by simp; omega
  unfold State.assembleNext
  dsimp only
  rw [if_neg (fun h => hlater h.1), if_pos (by rw [hlen]; exact hlast)]

theorem exec_telegramComplete (h : completes (s.port p) bytes last) :
    exec (.telegramComplete p last noise) s =
      .next ((s.setPort p (portHeard (s.port p) noise)).completeTelegram p (bytes ++ [last])) := by
  have hexec : exec (.telegramComplete p last noise) s = .next (
      if (s.port p).listens && (s.port p).receiver.completesWith last then
        s.takeChar p { data := last, markBit := false, stopMark := true, noise := noise }
      else s) := rfl
  rw [hexec, if_pos (completesWith_of_completes h), takeChar_heard]
  obtain ⟨-, -, hreceiver, hlong, hlast⟩ := h
  have hport : ((s.setPort p (portHeard (s.port p) noise)).port p).receiver = .assemble bytes := by
    cases p <;> exact hreceiver
  unfold State.takeCharIn
  simp only [hport]
  exact congrArg Host.Outcome.next (assembleNext_completes hlong hlast)

/-- A telegram that passes check and address on the branch goes to sample intake, override unit and
transaction manager (R135). -/
theorem exec_telegramComplete_good {t : Telegram} (h : completes s.branch bytes last)
    (hcheck : checkPasses (bytes ++ [last]) = true) (ht : t = assembledTelegram (bytes ++ [last]))
    (hdest : assigned t.dest) : exec (.telegramComplete .branch last noise) s =
      .next (({ s with branch := portGood s.branch noise } : State).branchIntake t) := by
  subst ht
  rw [exec_telegramComplete (p := .branch) h]
  unfold State.completeTelegram
  rw [if_neg (not_not.mpr hcheck), if_neg (not_not.mpr ((addressAssigned_iff _).mpr hdest))]
  rfl

end Completion

end Sys2Proof.Machine
end

section
/-! The REPORT on the branch (O22). -/

namespace Sys2Proof.Machine

/-! ### Its items (R23, R24, R128) -/

/-- The number in two bytes, sign and all, is that of the sixteen bits they make (R128). -/
theorem signed16_beNat (high low : Byte) : signed16 (beNat [high, low]) = signedOf high low := by
  have hlow := low.isLt
  have hbits : (high ++ low).toNat = high.toNat * 256 + low.toNat := by
    rw [BitVec.toNat_append, ← Nat.shiftLeft_add_eq_or_of_lt hlow, Nat.shiftLeft_eq]
  have hnat : beNat [high, low] = high.toNat * 256 + low.toNat := by simp [beNat]
  rw [signedOf, BitVec.toInt_eq_toNat_cond, hbits, hnat, signed16]
  split <;> split <;> omega

theorem reportItems_eq (payload : List Byte) : reportItems payload = reportedItems payload := by
  induction payload using reportItems.induct with
  | case1 channel status high low rest ih =>
    have hcount : (channel :: status :: high :: low :: rest).length / 4 = rest.length / 4 + 1 := by
      simp only [List.length_cons]
      omega
    rw [reportItems, ih, signed16_beNat, reportedItems, reportedItems, hcount, List.range_succ_eq_map,
      List.map_cons, List.map_map]
    rfl
  | case2 payload hshort =>
    have hcount : payload.length / 4 = 0 := by
      match payload, hshort with
      | [], _ => rfl
      | [_], _ => simp
      | [_, _], _ => simp
      | [_, _, _], _ => simp
      | a :: b :: c :: d :: rest, hshort => exact (hshort a b c d rest rfl).elim
    rw [reportItems, reportedItems, hcount]
    · rfl
    · exact hshort

theorem takeReport_eq (s : State) (t : Telegram) : s.takeReport t = { s with
    points := (reportedItems t.payload).foldl (fun points item => points.map (Option.map (fun e =>
      if e.cfg.station = t.src.toNat ∧ e.cfg.channel = item.1.toNat
      then e.takeItem s.plantClock item.2.1 item.2.2 else e))) s.points } := by
  have hitem : takeReportItem t.src s.plantClock = fun points item => points.map (Option.map (fun e =>
      if e.cfg.station = t.src.toNat ∧ e.cfg.channel = item.1.toNat
      then e.takeItem s.plantClock item.2.1 item.2.2 else e)) := by
    funext points item
    simp [takeReportItem, PointEntry.hasKey]
  rw [State.takeReport, reportItems_eq, hitem]
  rfl

/-! ### Its judgement (R163, R164) -/

section Judgement
variable {q : Transaction} {t : Telegram} (hreport : t.code = 2)
include hreport

theorem branchIntake_report (s : State) : s.branchIntake t = (s.takeReport t).judgeAnswer t := by
  unfold State.branchIntake
  rw [if_pos hreport]

theorem judge_report_answers (hread : q.request.code = 1) (ha : answers q t) :
    judge q.request t = .answered t := by
  unfold judge
  exact (if_pos ha).trans (if_pos ⟨hread, hreport⟩)

theorem judge_report_bad (h : q.request.code ≠ 1 ∨ ¬ answers q t) : judge q.request t = .badResponse := by
  unfold judge
  by_cases ha : t.src = q.request.dest ∧ t.dest = q.request.src
  · have hread : q.request.code ≠ 1 := h.resolve_right (not_not.mpr ha)
    rw [if_pos ha, if_neg (fun hk => hread hk.1)]
    simp [hreport]
  · rw [if_neg ha]

/-- A REPORT is no APPLIED: it goes up as received (R164). -/
theorem forwarded_report (rewritten : Bool) : forwarded rewritten t = t := by
  simp [forwarded, hreport]

end Judgement

/-- Settles O22: sample intake first, whatever the transaction; then the judgement, by the transaction. -/
theorem reportIsTakenAndForwarded : Obligations.ReportIsTakenAndForwarded := by
  intro s bytes last noise t hcompletes hcheck ht hdest hreport taken
  have hexec : exec (.telegramComplete .branch last noise) s = .next (taken.judgeAnswer t) := by
    rw [exec_telegramComplete_good hcompletes hcheck ht hdest, branchIntake_report hreport, takeReport_eq]
  rw [hexec]
  refine ⟨fun q hq hread ha => ?_, fun q hq hbad => ?_, fun hnone => ?_⟩
  · have hended : taken.judgeAnswer t = afterResult (taken.deliverResult q (.answered t)) 0 := by
      rw [judgeAnswer_receiving (s := taken) hq, judge_report_answers hreport hread ha,
        endTransaction_eq (s := taken) hq]
      rfl
    rw [hended]
    unfold State.deliverResult
    refine ⟨fun rewritten ho => ?_, fun ho => ?_⟩
    · simp only [ho, answerUp, forwarded_report hreport]
      rfl
    · simp only [ho]
  · rw [judgeAnswer_receiving (s := taken) hq, judge_report_bad hreport hbad,
      endTransaction_unanswered (s := taken) (reason := .badResponse) hq rfl]
    rfl
  · rw [judgeAnswer_other (s := taken) hnone]

end Sys2Proof.Machine
end

section
/-! The grant of a POLL (O50): the branch arbiter with no SET to send, the station whose point was sampled
longest ago, and its due channels. -/

namespace Sys2Proof.Machine

/-! ### Nothing to send (R88, R158, R159) -/

theorem isProtect_iff (n : Need) : n.isProtect = true ↔ isProtectNeed n := by
  cases n <;> simp [Need.isProtect, isProtectNeed]

theorem isHousekeeping_iff (n : Need) : n.isHousekeeping = true ↔ isHousekeepingNeed n := by
  cases n <;> simp [Need.isHousekeeping, isHousekeepingNeed]

theorem branchFree_of_grantOpen {s : State} (h : grantOpen s) : s.branchFree = true := by
  obtain ⟨htxn, hidle, htx⟩ := h
  simp [State.branchFree, htxn, hidle, htx]

theorem recordOffers_iff (r : ActuatorRecord) (clock : Nat) : r.offers clock = true ↔
    r.need ≠ .none ∧ ∀ t, r.retryNotBefore = some t → t ≤ clock := by
  unfold ActuatorRecord.offers
  cases r.retryNotBefore <;> simp

section Offers
variable {s : State} {kind : Need → Bool} {wanted : Need → Prop} (hkind : ∀ n, kind n = true ↔ wanted n)
  (hnone : ¬ wanted .none)
include hkind hnone

theorem offers_iff (r : ActuatorRecord) :
    (kind r.need && r.offers s.plantClock) = true ↔ offersNeed s wanted r := by
  have hneed : wanted r.need → r.need ≠ .none := fun h he => hnone (he ▸ h)
  rw [Bool.and_eq_true, hkind, recordOffers_iff]
  exact ⟨fun ⟨hw, _, ht⟩ => ⟨hw, ht⟩, fun ⟨hw, ht⟩ => ⟨hw, hneed hw, ht⟩⟩

theorem oldestNeed_none (h : ∀ q, some q ∈ s.records → ¬ offersNeed s wanted q) :
    oldestNeed kind s.plantClock none (s.records.filterMap id) = none := by
  have hall : ∀ q ∈ s.records.filterMap id, ¬ (kind q.need && q.offers s.plantClock) = true := fun q hq =>
    mt (offers_iff hkind hnone q).mp (h q (by simpa using hq))
  revert hall
  induction s.records.filterMap id with
  | nil => intro _; rfl
  | cons r rest ih =>
    intro hall
    rw [oldestNeed, if_neg (hall r (List.mem_cons_self ..))]
    exact ih fun q hq => hall q (List.mem_cons_of_mem _ hq)

end Offers

section Choice
variable {s : State} (hrelay : s.relayQueue = [])
  (hquiet : ∀ q, some q ∈ s.records → ¬ offersNeed s isProtectNeed q ∧ ¬ offersNeed s isHousekeepingNeed q)
include hrelay hquiet

/-- With no SET to send and the relay empty, a POLL is the one candidate left (R159). -/
theorem chooseGrant_quiet : s.chooseGrant = if s.pollOffered then some .poll else none := by
  have hprotect : s.oldestProtect = none :=
    oldestNeed_none isProtect_iff (by simp [isProtectNeed]) fun q hq => (hquiet q hq).1
  have hhousekeeping : s.oldestHousekeeping = none :=
    oldestNeed_none isHousekeeping_iff (by simp [isHousekeepingNeed]) fun q hq => (hquiet q hq).2
  unfold State.chooseGrant
  simp only [hrelay, hprotect, hhousekeeping]

theorem exec_branchGrant_quiet (hopen : grantOpen s) :
    exec .branchGrant s = .next (if s.pollOffered then s.grant .poll else s) := by
  have hexec : exec .branchGrant s = .next (
      if s.branchFree then
        match s.chooseGrant with
        | some g => s.grant g
        | none => s
      else s) := rfl
  rw [hexec, if_pos (branchFree_of_grantOpen hopen), chooseGrant_quiet hrelay hquiet]
  cases s.pollOffered <;> rfl

end Choice

theorem pollOffered_iff (s : State) : s.pollOffered = true ↔ ∃ e, some e ∈ s.points ∧ e.rt.pollNeed = true := by
  simp only [State.pollOffered, List.any_eq_true, mem_entries]

/-- A transaction begins with its request on the branch, with a resync break at three NO-RESPONSE results in a
row (R141, R161, R167). -/
theorem beginTransaction_eq (s : State) (request : Telegram) (origin : TxnOrigin) :
    s.beginTransaction request origin = afterGrant s request origin s.fairness := by
  unfold State.beginTransaction afterGrant
  by_cases hbreak : s.noResponse = 3
  · simp only [hbreak]
    rfl
  · simp only [beq_eq_false_iff_ne.mpr hbreak, if_neg hbreak, decide_eq_false hbreak]
    rfl

theorem grant_eq_afterGrant (s : State) (g : Grant) : s.grant g =
    afterGrant (s.formRequest g).1 (s.formRequest g).2.1 (s.formRequest g).2.2 (fairnessAfter s.fairness g) :=
  beginTransaction_eq ((s.formRequest g).1.withFairness (fairnessAfter s.fairness g)) _ _

/-! ### The station polled (R31) -/

/-- The entry that R31 names beats every due one: its sample is older, or as old at a lower index. -/
theorem older_of_oldestPollNeed {s : State} {i j : Nat} {e q : PointEntry} (h : oldestPollNeed s i e)
    (hj : s.points[j]? = some (some q)) (hn : q.rt.pollNeed = true) :
    sampleOlder e.rt.lastSample q.rt.lastSample = true ∨ (e.rt.lastSample = q.rt.lastSample ∧ i ≤ j) := by
  obtain ⟨-, -, hleast⟩ := h
  have hq := hleast j q hj hn
  revert hq
  cases e.rt.lastSample <;> cases q.rt.lastSample <;> simp [sampleOlder]

theorem sampleOlder_irrefl (a : Option Nat) : sampleOlder a a = false := by
  cases a <;> simp [sampleOlder]

theorem sampleOlder_asymm {a b : Option Nat} (h : sampleOlder a b = true) : sampleOlder b a = false := by
  match a, b with
  | none, none => rfl
  | some _, none => cases h
  | none, some _ => rfl
  | some x, some y =>
    have hlt : x < y := of_decide_eq_true h
    exact decide_eq_false (Nat.not_lt.mpr hlt.le)

/-- An entry that no later one beats stays the oldest. -/
theorem oldestDue_stays (e : PointEntry) (rest : List PointEntry)
    (h : ∀ q ∈ rest, q.rt.pollNeed = true → sampleOlder q.rt.lastSample e.rt.lastSample = false) :
    oldestDue (some e) rest = some e := by
  induction rest with
  | nil => rfl
  | cons q rest ih =>
    have hq : ¬ (q.rt.pollNeed && sampleOlder q.rt.lastSample e.rt.lastSample) = true := by
      rw [Bool.and_eq_true, not_and]
      exact fun hn => by simp [h q (List.mem_cons_self ..) hn]
    rw [oldestDue, if_neg hq]
    exact ih fun q' hq' => h q' (List.mem_cons_of_mem _ hq')

/-- A due entry that beats all before it becomes the oldest. -/
theorem oldestDue_reaches {e : PointEntry} (he : e.rt.pollNeed = true) (before after : List PointEntry)
    (best : Option PointEntry)
    (hbest : ∀ b ∈ best, sampleOlder e.rt.lastSample b.rt.lastSample = true)
    (hbefore : ∀ q ∈ before, q.rt.pollNeed = true → sampleOlder e.rt.lastSample q.rt.lastSample = true) :
    oldestDue best (before ++ e :: after) = oldestDue (some e) after := by
  induction before generalizing best with
  | nil =>
    cases best with
    | none => simp [oldestDue, he]
    | some b => simp [oldestDue, he, hbest b rfl]
  | cons q before ih =>
    have hrest : ∀ q' ∈ before, q'.rt.pollNeed = true → sampleOlder e.rt.lastSample q'.rt.lastSample = true :=
      fun q' hq' => hbefore q' (List.mem_cons_of_mem _ hq')
    have hq := hbefore q (List.mem_cons_self ..)
    cases best with
    | none =>
      refine ih _ (fun b hb => ?_) hrest
      split at hb
      · cases hb
        exact hq ‹_›
      · cases hb
    | some b =>
      refine ih _ (fun b' hb' => ?_) hrest
      split at hb'
      · cases hb'
        rename_i hn
        exact hq (Bool.and_eq_true_iff.mp hn).1
      · cases hb'
        exact hbest b rfl

/-- The entry that R31 names is the one the model takes. -/
theorem oldestDue_of_oldestPollNeed {s : State} {i : Nat} {e : PointEntry} (h : oldestPollNeed s i e) :
    oldestDue none (s.points.filterMap id) = some e := by
  have ⟨hi, hneed, _⟩ := h
  obtain ⟨hlt, hv⟩ := List.getElem?_eq_some_iff.mp hi
  have hsplit : s.points.filterMap id =
      (s.points.take i).filterMap id ++ e :: (s.points.drop (i + 1)).filterMap id := by
    conv_lhs => rw [← List.take_append_drop i s.points, List.drop_eq_getElem_cons hlt, hv]
    simp
  rw [hsplit, oldestDue_reaches hneed _ _ none (by simp), oldestDue_stays]
  · intro q hq hn
    obtain ⟨k, hk⟩ := List.getElem?_of_mem (mem_entries.mp hq)
    rw [List.getElem?_drop] at hk
    rcases older_of_oldestPollNeed h hk hn with holder | ⟨hsame, -⟩
    · exact sampleOlder_asymm holder
    · rw [hsame]
      exact sampleOlder_irrefl _
  · intro q hq hn
    obtain ⟨j, hj⟩ := List.getElem?_of_mem (mem_entries.mp hq)
    rw [List.getElem?_take] at hj
    split at hj
    · exact (older_of_oldestPollNeed h hj hn).resolve_right fun heq => Nat.not_le.mpr ‹j < i› heq.2
    · cases hj

/-! ### The channels polled (R32) -/

/-- The entry is one that a poll of the station takes: the test of `pollStation` and of `dueAt`. -/
def dueNow (station : Nat) (e : PointEntry) : Bool := e.rt.pollNeed && e.cfg.station == station

section Due
variable {station clock : Nat} {e : PointEntry}

theorem dueNow_iff : dueNow station e = true ↔ e.rt.pollNeed = true ∧ e.cfg.station = station := by
  simp [dueNow]

theorem dueAt_due (h : dueNow station e) (rest : List (Option PointEntry)) :
    dueAt station (some e :: rest) = e :: dueAt station rest :=
  List.filter_cons_of_pos h

theorem dueAt_other (h : ¬ dueNow station e) (rest : List (Option PointEntry)) :
    dueAt station (some e :: rest) = dueAt station rest :=
  List.filter_cons_of_neg h

theorem pollStation_due (h : dueNow station e) (budget : Nat) (rest : List (Option PointEntry)) :
    pollStation station clock (budget + 1) (some e :: rest) =
      (some (e.poll clock) :: (pollStation station clock budget rest).1,
        e.cfg.channel :: (pollStation station clock budget rest).2) := by
  rw [pollStation]
  exact if_pos h

theorem pollStation_other (h : ¬ dueNow station e) (budget : Nat) (rest : List (Option PointEntry)) :
    pollStation station clock (budget + 1) (some e :: rest) =
      (some e :: (pollStation station clock (budget + 1) rest).1,
        (pollStation station clock (budget + 1) rest).2) := by
  rw [pollStation]
  exact if_neg h

theorem pollStation_spent (points : List (Option PointEntry)) :
    pollStation station clock 0 points = (points, []) := by
  cases points <;> rfl

end Due

theorem pollStation_channels (station clock budget : Nat) (points : List (Option PointEntry)) :
    (pollStation station clock budget points).2 =
      ((dueAt station points).take budget).map (fun e => e.cfg.channel) := by
  induction points generalizing budget with
  | nil => cases budget <;> rfl
  | cons o rest ih =>
    cases budget with
    | zero => rw [pollStation_spent]; rfl
    | succ budget =>
      cases o with
      | none => exact ih (budget + 1)
      | some e =>
        by_cases h : dueNow station e
        · rw [pollStation_due h, dueAt_due h, List.take_succ_cons, List.map_cons, ih]
        · rw [pollStation_other h, dueAt_other h, ih]

theorem pollStation_length (station clock budget : Nat) (points : List (Option PointEntry)) :
    (pollStation station clock budget points).1.length = points.length := by
  simpa using congrArg List.length (pollStation_cfg station clock budget points)

/-- An index that is free stays free. -/
theorem pollStation_free {station clock budget j : Nat} {points : List (Option PointEntry)}
    (hj : points[j]? = some none) : (pollStation station clock budget points).1[j]? = some none := by
  have h := congrArg (·[j]?) (pollStation_cfg station clock budget points)
  simpa [hj] using h

/-- An entry is polled when it is due and fewer due ones than the budget stand before it. -/
theorem pollStation_entry {station clock budget j : Nat} {points : List (Option PointEntry)} {x : PointEntry}
    (hj : points[j]? = some (some x)) : (pollStation station clock budget points).1[j]? = some (some (
      if dueNow station x ∧ (dueAt station (points.take j)).length < budget then x.poll clock else x)) := by
  induction points generalizing budget j with
  | nil => cases hj
  | cons o rest ih =>
    cases budget with
    | zero => rw [pollStation_spent, hj, if_neg (by omega)]
    | succ budget =>
      cases j with
      | zero =>
        cases hj
        by_cases h : dueNow station x
        · rw [pollStation_due h, if_pos ⟨h, Nat.succ_pos _⟩]
          rfl
        · rw [pollStation_other h, if_neg (fun hd => h hd.1)]
          rfl
      | succ j =>
        have hj : rest[j]? = some (some x) := hj
        rw [List.take_succ_cons]
        cases o with
        | none => exact ih hj
        | some e =>
          by_cases h : dueNow station e
          · rw [pollStation_due h, dueAt_due h, List.length_cons]
            simpa using ih hj
          · rw [pollStation_other h, dueAt_other h]
            exact ih hj

/-- The READ of a poll (R32). -/
theorem formPoll_eq {s : State} {e : PointEntry} (h : oldestDue none (s.points.filterMap id) = some e) :
    s.formPoll =
      ({ dest := BitVec.ofNat 8 e.cfg.station, src := s.ownAddress, kind := 0x01#8,
         payload := ((dueAt e.cfg.station s.points).take 8).map (fun x => BitVec.ofNat 8 x.cfg.channel) },
        (pollStation e.cfg.station s.plantClock 8 s.points).1) := by
  have hstation : s.pollStationChosen = e.cfg.station := by
    unfold State.pollStationChosen
    rw [h]
  unfold State.formPoll
  simp only [hstation, pollStation_channels, List.map_map]
  rfl

/-- Settles O50: nothing else stands before a POLL, whose station and channels are those of R31 and R32. -/
theorem grantOfAPoll : Obligations.GrantOfAPoll := by
  intro s hopen hrelay hquiet
  rw [exec_branchGrant_quiet hrelay hquiet hopen]
  refine ⟨fun i e hold => ?_, fun hnone => ?_⟩
  · have ⟨hi, hneed, _⟩ := hold
    have hoffered : s.pollOffered = true :=
      (pollOffered_iff s).mpr ⟨e, List.mem_of_getElem? hi, hneed⟩
    have hpoll := formPoll_eq (oldestDue_of_oldestPollNeed hold)
    refine ⟨(pollStation e.cfg.station s.plantClock 8 s.points).1, ?_, pollStation_length .., fun j hj =>
      pollStation_free hj, fun j x hj => ?_⟩
    · rw [if_pos hoffered, grant_eq_afterGrant]
      simp only [State.formRequest, hpoll]
      rfl
    · rw [pollStation_entry hj]
      simp only [dueNow_iff, and_assoc]
      rfl
  · rw [if_neg]
    rw [pollOffered_iff]
    rintro ⟨e, he, hn⟩
    simp [hnone e he] at hn

end Sys2Proof.Machine
end

section
/-! What an evaluation of a coil does (chapters 3 and 4): the results that it stores (O24) and the trip that
it finds (O25). -/

namespace Sys2Proof.Machine

/-! ### The state machine by the state that it finds (R61) -/

/-- What the state machine does with an indication in a state, the results stored and the timers advanced. -/
def State.actByState (s : State) (found : CoilState) (c : CoilId) (ind : Indication) : State :=
  match found with
  | .offline => s
  | .startup => s.actUnlatched c ind State.actInStartup
  | .normal => s.actUnlatched c ind State.actInNormal
  | .watch => s.actUnlatched c ind State.actInWatch
  | .guard => s.actUnlatched c ind State.actInGuard
  | .trip => s.actInTrip c
  | .lockout => s.setCoil c { s.coil c with autoResetTimer := 0 }

/-- An evaluation stores the evaluated record, and the state machine acts on it by the state found. -/
theorem State.evaluateCoil_eq {s : State} {c : CoilId} {k : Coil} (hc : c.val < s.coils.length)
    (hk : EvaluatedRecord s c k) : s.evaluateCoil c =
      (s.setCoil c k).actByState (s.coil c).state c (indicationOf k.cfg k.eval) := by
  obtain rfl := (evaluatedRecord_iff s c k).mp hk
  unfold State.evaluateCoil State.takeIndication
  dsimp only
  rw [s.coil_setCoil c _ hc, State.setCoil_setCoil]
  cases (s.coil c).state <;> rfl

theorem exec_evaluation {s : State} {c : CoilId} (h : (s.coil c).evalTimer = true) :
    exec (.evaluation c) s = .next (s.evaluateCoil c) :=
  congrArg Host.Outcome.next (if_pos h)

/-- What an indication can do to a coil that is not latched. -/
inductive UnlatchedMove (s : State) (c : CoilId) : State → Prop
  | stays : UnlatchedMove s c s
  | enters (new : CoilState) (cause : Option Cause) : UnlatchedMove s c (s.enterState c new cause)
  | changesCause (cause : Cause) : UnlatchedMove s c (s.changeCause c cause)
  | trips (cause : Cause) : UnlatchedMove s c (s.tripCoil c cause)

section
variable (s : State) (c : CoilId) (ind : Indication)

theorem State.actInStartup_moves : UnlatchedMove s c (s.actInStartup c ind) := by
  unfold State.actInStartup
  dsimp only
  split
  · split
    · exact .enters ..
    · split <;> exact .enters ..
  · exact .stays

theorem State.actInNormal_moves : UnlatchedMove s c (s.actInNormal c ind) := by
  unfold State.actInNormal
  dsimp only
  split
  · exact .enters ..
  · split
    · exact .enters ..
    · exact .stays

theorem State.actInWatch_moves : UnlatchedMove s c (s.actInWatch c ind) := by
  unfold State.actInWatch
  dsimp only
  split
  · exact .enters ..
  · split
    · exact .enters ..
    · split
      · exact .changesCause _
      · exact .stays

theorem State.actInGuard_moves : UnlatchedMove s c (s.actInGuard c ind) := by
  unfold State.actInGuard
  dsimp only
  split
  · exact .changesCause _
  · split
    · exact .enters ..
    · exact .stays

theorem State.actUnlatched_moves {rule : State → CoilId → Indication → State}
    (h : UnlatchedMove s c (rule s c ind)) : UnlatchedMove s c (s.actUnlatched c ind rule) := by
  unfold State.actUnlatched
  split
  · exact .trips _
  · exact h

/-- A coil in TRIP has its auto-reset timer stored, or is reset (R74). -/
theorem State.actInTrip_cases :
    (∃ timer, s.actInTrip c = s.setCoil c { s.coil c with autoResetTimer := timer }) ∨
    s.actInTrip c = s.resetToGuard c := by
  unfold State.actInTrip State.autoResetStep
  split
  · exact .inl ⟨_, rfl⟩
  · split
    · exact .inr rfl
    · exact .inl ⟨_, rfl⟩

end

/-! ### The stored results stay while the state machine acts (R40) -/

/-- Coil `c` keeps its configuration and stored results, and every other coil its whole record. -/
structure KeepsResults (s t : State) (c : CoilId) : Prop where
  cfg : (t.coil c).cfg = (s.coil c).cfg
  eval : (t.coil c).eval = (s.coil c).eval
  others : ∀ d, d ≠ c → t.coil d = s.coil d

section
variable {s t : State} {c : CoilId} {k : Coil} {new : CoilState} {cause : Option Cause}

theorem Entered.coil_self (h : Entered s t c k new cause) (hc : c.val < s.coils.length) :
    t.coil c = k.entering new cause s.plantClock := by
  rw [State.coil, h.coils]
  exact s.coil_setCoil c _ hc

theorem Entered.coil_other (h : Entered s t c k new cause) {d : CoilId} (hd : d ≠ c) :
    t.coil d = s.coil d := by
  rw [State.coil, h.coils]
  exact s.coil_setCoil_ne _ hd

theorem State.setCoil_length (s : State) (c : CoilId) (k : Coil) :
    (s.setCoil c k).coils.length = s.coils.length := List.length_set ..

theorem KeepsResults.refl (s : State) (c : CoilId) : KeepsResults s s c := ⟨rfl, rfl, fun _ _ => rfl⟩

theorem KeepsResults.setCoil (hc : c.val < s.coils.length) (hcfg : k.cfg = (s.coil c).cfg)
    (heval : k.eval = (s.coil c).eval) : KeepsResults s (s.setCoil c k) c where
  cfg := by rw [s.coil_setCoil c k hc, hcfg]
  eval := by rw [s.coil_setCoil c k hc, heval]
  others := fun _ hd => s.coil_setCoil_ne k hd

theorem Entered.keepsResults (h : Entered s t c k new cause) (hc : c.val < s.coils.length)
    (hcfg : k.cfg = (s.coil c).cfg) (heval : k.eval = (s.coil c).eval) : KeepsResults s t c where
  cfg := by rw [h.coil_self hc]; exact hcfg
  eval := by rw [h.coil_self hc]; exact heval
  others := fun _ hd => h.coil_other hd

/-- Whatever an indication does to an unlatched coil, the results stored before it stay. -/
theorem UnlatchedMove.keepsResults (h : UnlatchedMove s c t) (hc : c.val < s.coils.length) :
    KeepsResults s t c := by
  cases h with
  | stays => exact .refl s c
  | enters new cause =>
    have h := s.enterState_entered c (s.coil c) new cause hc
    rw [State.setCoil_coil] at h
    exact h.keepsResults hc rfl rfl
  | changesCause cause =>
    unfold State.changeCause
    dsimp only
    split
    · exact .refl s c
    · have h : KeepsResults s (s.setCoil c { s.coil c with cause := some cause }) c := .setCoil hc rfl rfl
      exact ⟨h.cfg, h.eval, h.others⟩
  | trips cause =>
    have h := s.tripCoil_tripped c (s.coil c) cause hc
    rw [State.setCoil_coil] at h
    exact Entered.keepsResults h hc rfl rfl

/-- In every state but TRIP the state machine keeps the results stored. -/
theorem State.actByState_keepsResults {found : CoilState} (hc : c.val < s.coils.length) (ind : Indication)
    (h : found ≠ .trip) : KeepsResults s (s.actByState found c ind) c := by
  cases found with
  | offline => exact .refl s c
  | startup => exact (s.actUnlatched_moves c ind (s.actInStartup_moves c ind)).keepsResults hc
  | normal => exact (s.actUnlatched_moves c ind (s.actInNormal_moves c ind)).keepsResults hc
  | watch => exact (s.actUnlatched_moves c ind (s.actInWatch_moves c ind)).keepsResults hc
  | guard => exact (s.actUnlatched_moves c ind (s.actInGuard_moves c ind)).keepsResults hc
  | trip => exact absurd rfl h
  | lockout => exact .setCoil hc rfl rfl

/-- A coil in TRIP stays there with its results, or enters GUARD with D at 0 (R74). -/
theorem State.actInTrip_results (hc : c.val < s.coils.length) :
    (KeepsResults s (s.actInTrip c) c ∧ ((s.actInTrip c).coil c).state = (s.coil c).state) ∨
    Entered s (s.actInTrip c) c
      { s.coil c with autoResetTimer := 0, eval := { (s.coil c).eval with dose := 0 } }
      .guard (some .reset) := by
  rcases s.actInTrip_cases c with ⟨timer, h⟩ | h
  · rw [h]
    exact .inl ⟨.setCoil hc rfl rfl, by rw [s.coil_setCoil c _ hc]⟩
  · have hreset := s.resetToGuard_entered c (s.coil c) hc
    rw [State.setCoil_coil] at hreset
    exact .inr (h ▸ hreset)

/-- After an evaluation the results stand as stored, but for a coil in TRIP that was reset (R74). -/
theorem State.evaluateCoil_results (hc : c.val < s.coils.length) (hk : EvaluatedRecord s c k) :
    (KeepsResults (s.setCoil c k) (s.evaluateCoil c) c ∧
      ¬ ((s.coil c).state = .trip ∧ ((s.evaluateCoil c).coil c).state = .guard)) ∨
    ((s.coil c).state = .trip ∧ Entered (s.setCoil c k) (s.evaluateCoil c) c
      { k with autoResetTimer := 0, eval := { k.eval with dose := 0 } } .guard (some .reset)) := by
  have hself := s.coil_setCoil c k hc
  have hc' : c.val < (s.setCoil c k).coils.length := by rwa [State.setCoil_length]
  rw [State.evaluateCoil_eq hc hk]
  by_cases htrip : (s.coil c).state = .trip
  · have hstate : k.state = .trip := by rw [hk.record, htrip]
    have hact := State.actInTrip_results hc'
    rw [hself, hstate] at hact
    rw [htrip, State.actByState]
    exact hact.imp (fun ⟨h, hstays⟩ => ⟨h, by simp [hstays]⟩) (fun h => ⟨rfl, h⟩)
  · exact .inl ⟨State.actByState_keepsResults hc' _ htrip, fun h => htrip h.1⟩

end

/-- Settles O24: the results are stored first, and only the auto-reset of a coil in TRIP touches them after. -/
theorem evaluationStoresItsResults : Obligations.EvaluationStoresItsResults := by
  intro s c hlen htimer
  have hc : c.val < s.coils.length := by omega
  obtain ⟨k, hk⟩ : ∃ k, EvaluatedRecord s c k := ⟨_, (evaluatedRecord_iff s c _).mpr rfl⟩
  have hcfg : k.cfg = (s.coil c).cfg := by rw [hk.record]
  have hself := s.coil_setCoil c k hc
  have hothers {d : CoilId} (hd : d ≠ c) := s.coil_setCoil_ne k hd
  refine ⟨_, k.eval, exec_evaluation htimer, s.evaluateCoil_same c, ?_⟩
  rcases State.evaluateCoil_results hc hk with ⟨h, hplain⟩ | ⟨htrip, h⟩
  · rw [if_neg hplain, h.cfg, h.eval, hself]
    exact ⟨hcfg, fun d hd => (h.others d hd).trans (hothers hd), hk.results, rfl⟩
  · have hreset := h.coil_self (by rwa [State.setCoil_length])
    rw [hreset]
    exact ⟨hcfg, fun d hd => (h.coil_other hd).trans (hothers hd), hk.results, (if_pos ⟨htrip, rfl⟩).symm⟩

/-! ### The trip conditions (R51, R66) -/

theorem atHardBand_iff (k : Coil) : atHardBand k.cfg k.eval = true ↔ hardTrip k := by
  unfold atHardBand hardTrip
  cases k.eval.m <;> simp

theorem contactCold_iff (b : ContactBlock) (k : Coil) : contactCold b k.cfg = true ↔ contactTrip b k := by
  unfold contactCold contactTrip
  cases k.cfg.contact with
  | none => simp
  | some r =>
    simp only [beq_iff_eq, reads_iff, Option.some.injEq, exists_eq_left']
    cases r.polarity <;> rfl

theorem blindTrip_iff (s : State) (k : Coil) : s.blindTrip k = true ↔ blindTripHolds s k := by
  simp [State.blindTrip, blindTripHolds, oatColdOrLost_iff, and_assoc]

/-- The trip that the model finds is by the first of the four conditions that holds (R66). -/
theorem tripCause_eq_some (s : State) (k : Coil) :
    let found := s.tripCause k (indicationOf k.cfg k.eval)
    (hardTrip k → found = some .hard) ∧
    (¬ hardTrip k → doseTrip k → found = some .dose) ∧
    (¬ hardTrip k → ¬ doseTrip k → contactTrip s.contacts k → found = some .contact) ∧
    (¬ hardTrip k → ¬ doseTrip k → ¬ contactTrip s.contacts k → blindTripHolds s k →
      found = some .blind) := by
  have htest : (indicationOf k.cfg k.eval).trip =
      if atHardBand k.cfg k.eval then .hard else if k.cfg.tripDose ≤ k.eval.dose then .dose else .none := rfl
  simp only [← atHardBand_iff, ← contactCold_iff, ← blindTrip_iff, doseTrip, State.tripCause, htest]
  refine ⟨fun hhard => ?_, fun hhard hdose => ?_, fun hhard hdose hcold => ?_,
    fun hhard hdose hcold hblind => ?_⟩
  · simp [hhard]
  · simp [hhard, hdose]
  · simp [hhard, hdose, hcold]
  · simp [hhard, hdose, hcold, hblind]

/-- An evaluation of an unlatched coil for which the trip tests find a cause trips it with that cause. -/
theorem exec_evaluation_trips {s : State} {c : CoilId} {k : Coil} {cause : Cause}
    (hc : c.val < s.coils.length) (htimer : (s.coil c).evalTimer = true)
    (hunlatched : unlatched (s.coil c).state) (hk : EvaluatedRecord s c k)
    (hcause : s.tripCause k (indicationOf k.cfg k.eval) = some cause) :
    ∃ t, exec (.evaluation c) s = .next t ∧ Tripped s t c k cause := by
  refine ⟨_, exec_evaluation htimer, ?_⟩
  have hact (rule : State → CoilId → Indication → State) :
      (s.setCoil c k).actUnlatched c (indicationOf k.cfg k.eval) rule = (s.setCoil c k).tripCoil c cause := by
    unfold State.actUnlatched
    rw [s.coil_setCoil c k hc, show (s.setCoil c k).tripCause k _ = some cause from hcause]
  rw [State.evaluateCoil_eq hc hk]
  have htripped := s.tripCoil_tripped c k cause hc
  rcases hunlatched with h | h | h | h <;> rw [h, State.actByState, hact] <;> exact htripped

/-- Settles O25: the four tests in their order, then the trip with the cause found. -/
theorem evaluationTripsByTheFirstCondition : Obligations.EvaluationTripsByTheFirstCondition := by
  intro s c k hlen htimer hunlatched hk
  obtain ⟨hard, dose, contact, blind⟩ := tripCause_eq_some s k
  have trips {cause : Cause} := exec_evaluation_trips (cause := cause) (by omega) htimer hunlatched hk
  exact ⟨fun h => trips (hard h), fun h h' => trips (dose h h'), fun h h' h'' => trips (contact h h' h''),
    fun h h' h'' h''' => trips (blind h h' h'' h''')⟩

end Sys2Proof.Machine
end

section
/-! What an evaluation that finds no trip does to a coil, by the state that it finds (section 4.4: O26, O27;
section 4.6: O28). -/

namespace Sys2Proof.Machine

/-! ### The conditions of R52, R53 and R64 in the terms of claims -/

section Conditions
variable {b : ContactBlock} {k : Coil} {g w : Option Cause}

theorem tripCause_eq_none {s : State} (h : noTrip s k) :
    s.tripCause k (indicationOf k.cfg k.eval) = none := by
  obtain ⟨hhard, hdose, hcontact, hblind⟩ := h
  rw [← atHardBand_iff] at hhard
  rw [← contactCold_iff] at hcontact
  rw [← blindTrip_iff] at hblind
  have htrip : (indicationOf k.cfg k.eval).trip = .none :=
    (if_neg hhard).trans (if_neg (show ¬ k.cfg.tripDose ≤ k.eval.dose from hdose))
  simp [State.tripCause, htrip, hcontact, hblind]

theorem mpBelow_iff (k : Coil) (band : Int) : mpBelow k.eval band = true ↔ predictedBelow k band := by
  unfold mpBelow predictedBelow
  cases k.eval.mp <;> simp

theorem clearedAbove_iff (k : Coil) (band : Int) :
    clearedAbove k.cfg k.eval band = true ↔ clearedBy k band := by
  unfold clearedAbove clearedBy
  cases k.eval.mp <;> simp

theorem plantHold_iff (b : ContactBlock) (k : Coil) : plantHold b k.cfg = true ↔ heldByPlant b k := by
  simp [plantHold, heldByPlant]

theorem guardCondition_eq (h : GuardCause b k g) :
    guardCondition b k.cfg (indicationOf k.cfg k.eval) = g := by
  obtain ⟨sensing, margin, dose, plant, none⟩ := h
  simp only [← mpBelow_iff, ← plantHold_iff] at margin dose plant none
  unfold guardCondition indicationOf
  cases hlost : k.eval.sensingLost with
  | true => simp [sensing hlost]
  | false =>
    by_cases hbelow : mpBelow k.eval k.cfg.guardBand = true
    · simp [hbelow, margin hlost hbelow]
    · by_cases hdose : 0 < k.eval.dose
      · simp [hbelow, hdose, dose hlost hbelow hdose]
      · have hzero : k.eval.dose = 0 := by omega
        by_cases hplant : plantHold b k.cfg = true
        · simp [hbelow, hzero, hplant, plant hlost hbelow hzero hplant]
        · simp [hbelow, hzero, hplant, none hlost hbelow hzero hplant]

theorem watchCondition_eq (h : WatchCause k w) : watchCondition k (indicationOf k.cfg k.eval) = w := by
  obtain ⟨margin, cold, none⟩ := h
  simp only [← mpBelow_iff] at margin cold none
  unfold watchCondition indicationOf
  by_cases hbelow : mpBelow k.eval k.cfg.watchBand = true
  · simp [hbelow, margin hbelow]
  · cases hcold : k.coldWeather with
    | true => simp [hbelow, cold hbelow hcold]
    | false => simp [hbelow, none hbelow hcold]

/-- The cause with which a coil leaves GUARD is MARGIN unless COLD-WEATHER alone makes the watch condition
(R72). -/
theorem watchCauseAfterGuard_eq (h : WatchCause k w) :
    watchCauseAfterGuard k (indicationOf k.cfg k.eval) =
      if ¬ w = some .coldWeather then .margin else .coldWeather := by
  rw [← watchCondition_eq h]
  unfold watchCauseAfterGuard watchCondition
  cases (indicationOf k.cfg k.eval).watchDemand <;> cases k.coldWeather <;> simp

theorem watchRelease_iff (k : Coil) :
    watchRelease k (indicationOf k.cfg k.eval) = true ↔
      clearedBy k k.cfg.watchBand ∧ k.coldWeather = false := by
  simp [watchRelease, indicationOf, clearedAbove_iff]

theorem guardRelease_iff (b : ContactBlock) (k : Coil) :
    guardRelease b k.cfg (indicationOf k.cfg k.eval) = true ↔
      clearedBy k k.cfg.guardBand ∧ ¬ heldByPlant b k := by
  simp [guardRelease, indicationOf, clearedAbove_iff, ← plantHold_iff]

theorem startupEnds_iff (k : Coil) :
    startupEnds k (indicationOf k.cfg k.eval) = true ↔
      k.cfg.startupHold ≤ k.dwell ∧ k.cfg.faceQuorum ≤ k.eval.n ∧ k.eval.waterInPlace = true := by
  unfold startupEnds
  rw [Bool.and_eq_true, Bool.and_eq_true, decide_eq_true_eq, decide_eq_true_eq, and_assoc]
  rfl

theorem clearConditions_iff (b : ContactBlock) (k : Coil) : clearConditions b k = true ↔ clearHolds b k := by
  have hcontact : contactClear b k.cfg = true ↔ ∀ r, k.cfg.contact = some r →
      inputReads b r.input (match r.polarity with | .openCold => .closed | .closedCold => .opened) := by
    unfold contactClear
    simp only [← reads_iff]
    cases k.cfg.contact with
    | none => simp
    | some r =>
      rcases r with ⟨input, polarity⟩
      rcases hread : b.reads input with _ | x
      · simp [hread]
      · cases polarity <;> cases x <;> simp [hread, coldState]
  unfold clearConditions clearHolds
  rw [Bool.and_eq_true, hcontact]
  refine and_congr_right fun _ => ?_
  cases k.eval.m <;> simp

end Conditions

/-! ### The rules of the unlatched states by the two conditions (R69 to R72) -/

/-- Where the conditions take a coil that their demand moves: to GUARD, else to WATCH, else `otherwise`. -/
def State.enterByDemand (s : State) (c : CoilId) (g w : Option Cause) (otherwise : State) : State :=
  match g, w with
  | some cause, _ => s.enterState c .guard (some cause)
  | none, some cause => s.enterState c .watch (some cause)
  | none, none => otherwise

section Rules
variable {s : State} {c : CoilId} {k : Coil} {g w : Option Cause} (hc : c.val < s.coils.length)
include hc

/-- An evaluation that finds no trip leaves the coil to the rule of its state (R61, R66). -/
theorem actUnlatched_noTrip (hno : noTrip s k) (rule : State → CoilId → Indication → State) :
    (s.setCoil c k).actUnlatched c (indicationOf k.cfg k.eval) rule =
      rule (s.setCoil c k) c (indicationOf k.cfg k.eval) := by
  unfold State.actUnlatched
  rw [s.coil_setCoil c k hc, show (s.setCoil c k).tripCause k _ = none from tripCause_eq_none hno]

/-- A demand moves the coil, whatever would have become of it otherwise. -/
theorem enterByDemand_entered (otherwise : State) :
    (g ≠ none → Entered s ((s.setCoil c k).enterByDemand c g w otherwise) c k .guard g) ∧
    (g = none → w ≠ none → Entered s ((s.setCoil c k).enterByDemand c g w otherwise) c k .watch w) := by
  refine ⟨fun hg => ?_, ?_⟩
  · obtain ⟨cause, rfl⟩ := Option.ne_none_iff_exists'.mp hg
    exact s.enterState_entered c k .guard (some cause) hc
  · rintro rfl hw
    obtain ⟨cause, rfl⟩ := Option.ne_none_iff_exists'.mp hw
    exact s.enterState_entered c k .watch (some cause) hc

theorem changeCause_setCoil (cause : Cause) :
    (s.setCoil c k).changeCause c cause = causeKept s c k (some cause) := by
  unfold State.changeCause causeKept
  dsimp only
  rw [s.coil_setCoil c k hc, State.setCoil_setCoil]
  rfl

variable (hg : GuardCause s.contacts k g) (hw : WatchCause k w)
include hg hw

/-- R70: NORMAL follows the conditions, and stays without either. -/
theorem actInNormal_setCoil : (s.setCoil c k).actInNormal c (indicationOf k.cfg k.eval) =
    (s.setCoil c k).enterByDemand c g w (evaluatedOnly s c k) := by
  unfold State.actInNormal
  rw [s.coil_setCoil c k hc, State.setCoil, State.withCoils_contacts]
  dsimp only
  rw [guardCondition_eq hg, watchCondition_eq hw]
  cases g <;> cases w <;> rfl

/-- R69: STARTUP that ends follows the conditions, to NORMAL without either, and stays until it ends. -/
theorem actInStartup_setCoil : (s.setCoil c k).actInStartup c (indicationOf k.cfg k.eval) =
    if startupEnds k (indicationOf k.cfg k.eval) then
      (s.setCoil c k).enterByDemand c g w ((s.setCoil c k).enterState c .normal none)
    else evaluatedOnly s c k := by
  unfold State.actInStartup
  rw [s.coil_setCoil c k hc, State.setCoil, State.withCoils_contacts]
  dsimp only
  rw [guardCondition_eq hg, watchCondition_eq hw]
  cases g <;> cases w <;> rfl

/-- R71: WATCH follows the guard condition, else watch release after its dwell, else keeps its cause. -/
theorem actInWatch_setCoil : (s.setCoil c k).actInWatch c (indicationOf k.cfg k.eval) =
    g.elim
      (if watchRelease k (indicationOf k.cfg k.eval) ∧ k.cfg.watchDwell ≤ k.dwell then
        (s.setCoil c k).enterState c .normal none
      else if w = none then evaluatedOnly s c k else causeKept s c k w)
      (fun cause => (s.setCoil c k).enterState c .guard (some cause)) := by
  have hcause := fun cause => changeCause_setCoil (k := k) hc cause
  unfold State.actInWatch
  rw [s.coil_setCoil c k hc, State.setCoil, State.withCoils_contacts]
  dsimp only
  rw [guardCondition_eq hg, watchCondition_eq hw]
  cases g with
  | some cause => rfl
  | none =>
    cases w with
    | none => rfl
    | some cause => exact congrArg (ite _ _) (hcause cause)

/-- R72: GUARD keeps the cause of a guard condition, else goes to WATCH by guard release after its dwell. -/
theorem actInGuard_setCoil : (s.setCoil c k).actInGuard c (indicationOf k.cfg k.eval) =
    g.elim
      (if guardRelease s.contacts k.cfg (indicationOf k.cfg k.eval) ∧ k.cfg.guardDwell ≤ k.dwell then
        (s.setCoil c k).enterState c .watch (some (if ¬ w = some .coldWeather then .margin else .coldWeather))
      else evaluatedOnly s c k)
      (fun cause => causeKept s c k (some cause)) := by
  have hcause := fun cause => changeCause_setCoil (k := k) hc cause
  unfold State.actInGuard
  rw [s.coil_setCoil c k hc, State.setCoil, State.withCoils_contacts]
  dsimp only
  rw [guardCondition_eq hg, watchCauseAfterGuard_eq hw]
  cases g with
  | some cause => exact hcause cause
  | none => rfl

end Rules

/-- An evaluation stores the evaluated record and leaves the rest to the state machine (R40, R61). -/
theorem exec_evaluation_acts {s : State} {c : CoilId} {k : Coil} (hc : c.val < s.coils.length)
    (htimer : (s.coil c).evalTimer = true) (hk : EvaluatedRecord s c k) :
    exec (.evaluation c) s =
      .next ((s.setCoil c k).actByState (s.coil c).state c (indicationOf k.cfg k.eval)) := by
  rw [exec_evaluation htimer, State.evaluateCoil_eq hc hk]

/-- Settles O26: both rules follow the two conditions, STARTUP once it ends. -/
theorem evaluationInStartupAndNormal : Obligations.EvaluationInStartupAndNormal := by
  intro s c k g w hlen htimer hk hno hg hw ends
  have hc : c.val < s.coils.length := by omega
  have hexec := exec_evaluation_acts hc htimer hk
  have hstartup (h : (s.coil c).state = .startup) : exec (.evaluation c) s =
      .next (if startupEnds k (indicationOf k.cfg k.eval) then
        (s.setCoil c k).enterByDemand c g w ((s.setCoil c k).enterState c .normal none)
        else evaluatedOnly s c k) := by
    rw [hexec, h, State.actByState, actUnlatched_noTrip hc hno, actInStartup_setCoil hc hg hw]
  have hnormal (h : (s.coil c).state = .normal) : exec (.evaluation c) s =
      .next ((s.setCoil c k).enterByDemand c g w (evaluatedOnly s c k)) := by
    rw [hexec, h, State.actByState, actUnlatched_noTrip hc hno, actInNormal_setCoil hc hg hw]
  have hends (h : ends) : exec (.evaluation c) s =
      .next ((s.setCoil c k).enterByDemand c g w ((s.setCoil c k).enterState c .normal none)) := by
    rw [hstartup h.1, if_pos ((startupEnds_iff k).mpr h.2)]
  refine ⟨fun h => ?_, ?_, ?_, fun h hnot => ?_⟩
  · obtain ⟨otherwise, hmoves⟩ : ∃ otherwise, exec (.evaluation c) s =
        .next ((s.setCoil c k).enterByDemand c g w otherwise) :=
      h.elim (fun h => ⟨_, hends h⟩) (fun h => ⟨_, hnormal h⟩)
    obtain ⟨hguard, hwatch⟩ := enterByDemand_entered (k := k) (g := g) (w := w) hc otherwise
    exact ⟨fun h => ⟨_, hmoves, hguard h⟩, fun h h' => ⟨_, hmoves, hwatch h h'⟩⟩
  · rintro h rfl rfl
    exact ⟨_, hends h, s.enterState_entered c k .normal none hc⟩
  · rintro h rfl rfl
    exact hnormal h
  · rw [hstartup h, if_neg (fun hend => hnot ⟨h, (startupEnds_iff k).mp hend⟩)]

/-- Settles O27: the guard condition first, then the release after the dwell, then the cause. -/
theorem evaluationInWatchAndGuard : Obligations.EvaluationInWatchAndGuard := by
  intro s c k g w hlen htimer hk hno hg hw
  have hc : c.val < s.coils.length := by omega
  have hexec := exec_evaluation_acts hc htimer hk
  refine ⟨fun hstate => ?_, fun hstate => ?_⟩
  · rw [hstate, State.actByState, actUnlatched_noTrip hc hno, actInWatch_setCoil hc hg hw] at hexec
    intro released
    have hreleased : released ↔
        watchRelease k (indicationOf k.cfg k.eval) ∧ k.cfg.watchDwell ≤ k.dwell := by
      rw [watchRelease_iff, and_assoc]
    refine ⟨fun h => ?_, ?_, ?_, ?_⟩
    · obtain ⟨cause, rfl⟩ := Option.ne_none_iff_exists'.mp h
      exact ⟨_, hexec, s.enterState_entered c k .guard (some cause) hc⟩
    · rintro rfl h
      exact ⟨_, hexec.trans (congrArg Host.Outcome.next (if_pos (hreleased.mp h))),
        s.enterState_entered c k .normal none hc⟩
    · rintro rfl h hcause
      exact hexec.trans (congrArg Host.Outcome.next ((if_neg (mt hreleased.mpr h)).trans (if_neg hcause)))
    · rintro rfl h hcause
      exact hexec.trans (congrArg Host.Outcome.next ((if_neg (mt hreleased.mpr h)).trans (if_pos hcause)))
  · rw [hstate, State.actByState, actUnlatched_noTrip hc hno, actInGuard_setCoil hc hg hw] at hexec
    intro released
    have hreleased : released ↔
        guardRelease s.contacts k.cfg (indicationOf k.cfg k.eval) ∧ k.cfg.guardDwell ≤ k.dwell := by
      rw [guardRelease_iff, and_assoc]
    refine ⟨fun h => ?_, ?_, ?_⟩
    · obtain ⟨cause, rfl⟩ := Option.ne_none_iff_exists'.mp h
      exact hexec
    · rintro rfl h
      exact ⟨_, hexec.trans (congrArg Host.Outcome.next (if_pos (hreleased.mp h))),
        s.enterState_entered c k .watch _ hc⟩
    · rintro rfl h
      exact hexec.trans (congrArg Host.Outcome.next (if_neg (mt hreleased.mpr h)))

/-- R74: a coil in TRIP without auto_reset has its timer at 0, and with it counts the timer or is reset. -/
theorem actInTrip_setCoil {s : State} {c : CoilId} {k : Coil} (hc : c.val < s.coils.length) :
    (s.setCoil c k).actInTrip c =
      match k.cfg.autoReset with
      | none => evaluatedOnly s c { k with autoResetTimer := 0 }
      | some limit =>
        if limit ≤ autoResetAfter s.contacts k then (s.setCoil c k).resetToGuard c
        else evaluatedOnly s c { k with autoResetTimer := autoResetAfter s.contacts k } := by
  unfold State.actInTrip State.autoResetStep
  rw [s.coil_setCoil c k hc, State.setCoil_setCoil, State.setCoil_setCoil]
  rfl

/-- Settles O28: the auto-reset timer counts by the clear conditions, and resets the coil at its limit. -/
theorem evaluationWhenLatched : Obligations.EvaluationWhenLatched := by
  intro s c k hlen htimer hk
  have hc : c.val < s.coils.length := by omega
  have hexec := exec_evaluation_acts hc htimer hk
  have htrip (h : (s.coil c).state = .trip) := h ▸ hexec
  rw [State.actByState, actInTrip_setCoil hc] at htrip
  have hcount : autoResetAfter s.contacts k =
      if clearConditions s.contacts k = true then min 3600 (k.autoResetTimer + 1) else 0 := rfl
  refine ⟨?_, fun limit hstate hlimit hpos => ?_⟩
  · rintro (hstate | ⟨hstate, hlimit⟩)
    · rw [hexec, hstate, State.actByState, s.coil_setCoil c k hc, State.setCoil_setCoil]
      rfl
    · rw [htrip hstate, hlimit]
  · have hexec := htrip hstate
    rw [hlimit] at hexec
    dsimp only at hexec
    refine ⟨fun hclear => ?_, fun hclear hbelow => ?_, fun hclear hreached => ?_⟩
    · rw [hcount, if_neg (mt (clearConditions_iff _ _).mp hclear)] at hexec
      exact hexec.trans (congrArg Host.Outcome.next (if_neg (by omega)))
    · rw [hcount, if_pos ((clearConditions_iff _ _).mpr hclear)] at hexec
      exact hexec.trans (congrArg Host.Outcome.next (if_neg (by omega)))
    · rw [hcount, if_pos ((clearConditions_iff _ _).mpr hclear)] at hexec
      exact ⟨_, hexec.trans (congrArg Host.Outcome.next (if_pos hreached)), s.resetToGuard_entered c k hc⟩

end Sys2Proof.Machine
end

section
/-! DISABLE-COIL and RESET-COIL (O39, O40): the entry into OFFLINE or GUARD with a reply beside it. -/

namespace Sys2Proof.Machine

section Answers
variable {s : State} {src code : Byte} {serve : State → Served} (hroom : s.trunkOut.canReserve = true)
  (hrestart : s.restartPending = false)
include hroom hrestart

/-- A request served while a COMMIT is in flight, whose coil enters a state: the reply is ACCEPTED beside
the entry (R171, R174). -/
theorem takeAdmin_entered {t : State} {c : CoilId} {k : Coil} {new : CoilState} {cause : Option Cause}
    (hserve : serve s.reservePlace = Served.accept t false)
    (hentered : Entered s.reservePlace t c k new cause) :
    Entered (s.replied src code 0x00#8 []) (s.takeAdmin src code false serve) c k new cause := by
  rw [State.takeAdmin_served s src code false serve hroom hrestart (Or.inl rfl), hserve]
  have h := hentered.fillReserved { telegram := s.adminReply src code .accepted [], role := .plain }
  rw [State.reservePlace_fillReserved] at h
  exact h

/-- A request that is refused, or accepted without effect, changes nothing but the list (R171, R174). -/
theorem takeAdmin_unchanged {r : ResultCode} (hserve : serve s.reservePlace =
      { state := s.reservePlace, result := some r, data := [], role := .plain }) :
    s.takeAdmin src code false serve = s.replied src code r.code [] :=
  takeAdmin_answered hroom hrestart (Or.inl rfl) hserve rfl

end Answers

theorem latched_iff (x : CoilState) : x.latched = true ↔ x = .trip ∨ x = .lockout := by
  cases x <;> simp [CoilState.latched]

theorem not_latched_of_unlatched {x : CoilState} (h : unlatched x) : ¬ x.latched = true ∧ x ≠ .offline := by
  rcases h with rfl | rfl | rfl | rfl <;> decide

/-! ### DISABLE-COIL (R77) -/

/-- DISABLE-COIL of a coil, by its state. -/
theorem serveDisableCoil_coil (s : State) (c : CoilId) :
    serveDisableCoil [BitVec.ofNat 8 c.val] s =
      if (s.coil c).state.latched then .refuse s .latched
      else if (s.coil c).state = .offline then .accept s false
      else .accept (s.takeOffline c) false := by
  unfold serveDisableCoil
  rw [coilArgument_byte]

theorem serveDisableCoil_malformed {args : List Byte} (s : State)
    (h : args.length ≠ 1 ∨ 16 ≤ argument args 0) : serveDisableCoil args s = .refuse s .malformed := by
  unfold serveDisableCoil
  rw [coilArgument_malformed h]

/-- Settles O39: DISABLE-COIL by the state of its coil. -/
theorem disableCoilEntersOffline : Obligations.DisableCoilEntersOffline := by
  intro s src c hroom hrestart hlen
  have hc : c.val < s.reservePlace.coils.length := lt_of_lt_of_eq c.isLt hlen.symm
  have hserve := serveDisableCoil_coil s.reservePlace c
  rw [show s.reservePlace.coil c = s.coil c from rfl] at hserve
  have hplain {args : List Byte} {r : ResultCode} (h : serveDisableCoil args s.reservePlace =
      { state := s.reservePlace, result := some r, data := [], role := .plain }) :
      exec (.disableCoil src args) s = .next (s.replied src 0x08#8 r.code []) :=
    congrArg Host.Outcome.next (takeAdmin_unchanged hroom hrestart h)
  refine ⟨fun hstate => ?_, fun hstate => ?_, fun hstate => ?_, fun args hbad => ?_⟩
  · obtain ⟨hlatched, hoff⟩ := not_latched_of_unlatched hstate
    rw [if_neg hlatched, if_neg hoff] at hserve
    exact ⟨_, rfl, takeAdmin_entered hroom hrestart hserve
      (s.reservePlace.enterState_entered c _ .offline none hc)⟩
  · exact hplain (r := .latched) (hserve.trans (if_pos ((latched_iff _).mpr hstate)))
  · rw [hstate] at hserve
    exact hplain (r := .accepted) hserve
  · exact hplain (r := .malformed) (serveDisableCoil_malformed _ hbad)

/-! ### RESET-COIL (R75, R76) -/

/-- RESET-COIL of a coil: the tests of R75 in their order. -/
theorem serveResetCoil_coil (s : State) (c : CoilId) (release : Bool) :
    serveResetCoil [BitVec.ofNat 8 c.val, if release then 1#8 else 0#8] s =
      if ¬ (s.coil c).state.latched then .refuse s .notLatched
      else if (s.coil c).state = .lockout ∧ release = false then .refuse s .locked
      else if ¬ clearConditions s.contacts (s.coil c) then .refuse s .notClear
      else .accept (s.resetCoil c) false := by
  have hmarker : markerOf (if release then 1#8 else 0#8 : Byte).toNat = some release :=
    markerOf_markerByte release
  unfold serveResetCoil
  rw [parseTwoBytes, toNat_byte (by omega)]
  dsimp only
  rw [coilOf_val, hmarker]

theorem serveResetCoil_malformed {args : List Byte} (s : State)
    (h : args.length ≠ 2 ∨ 16 ≤ argument args 0 ∨ 2 ≤ argument args 1) :
    serveResetCoil args s = .refuse s .malformed := by
  unfold serveResetCoil
  split
  · rename_i number marker hp
    have hlen := (parseLayout_length hp).2.2
    have h0 : number = argument args 0 := fieldOr_byte (d := 0) hp (i := 0) (by simp) rfl rfl
    have h1 : marker = argument args 1 := fieldOr_byte (d := 0) hp (i := 1) (by simp) rfl rfl
    split
    · rename_i hcoil hmarker
      have hnumber := coilOf_lt hcoil
      have hbit := markerOf_lt hmarker
      rcases h with h | h | h
      · exact absurd hlen h
      · omega
      · omega
    · rfl
  · rfl

/-- What an accepted RESET-COIL does to a coil in TRIP (R76). -/
theorem resetCoil_trip {s : State} {c : CoilId} (hc : c.val < s.coils.length)
    (h : (s.coil c).state = .trip) :
    Entered s (s.resetCoil c) c
      { s.coil c with autoResetTimer := 0, eval := { (s.coil c).eval with dose := 0 } }
      .guard (some .reset) := by
  unfold State.resetCoil
  dsimp only
  rw [if_neg (by simp [h])]
  have hreset := s.resetToGuard_entered c (s.coil c) hc
  rw [State.setCoil_coil] at hreset
  exact hreset

/-- What an accepted RESET-COIL does to a coil in LOCKOUT: its trip history is cleared too (R76). -/
theorem resetCoil_lockout {s : State} {c : CoilId} (hc : c.val < s.coils.length)
    (h : (s.coil c).state = .lockout) :
    Entered s (s.resetCoil c) c
      { s.coil c with autoResetTimer := 0, eval := { (s.coil c).eval with dose := 0 }, tripHistory := [] }
      .guard (some .reset) := by
  unfold State.resetCoil
  dsimp only
  rw [if_pos h]
  exact s.resetToGuard_entered c { s.coil c with tripHistory := [] } hc

/-- Settles O40: RESET-COIL by the tests of R75 in their order. -/
theorem resetCoilEntersGuard : Obligations.ResetCoilEntersGuard := by
  intro s src c release hroom hrestart hlen request latched k
  have hc : c.val < s.reservePlace.coils.length := lt_of_lt_of_eq c.isLt hlen.symm
  have hserve := serveResetCoil_coil s.reservePlace c release
  rw [show s.reservePlace.coil c = s.coil c from rfl,
    show s.reservePlace.contacts = s.contacts from rfl] at hserve
  have hplain {args : List Byte} {r : ResultCode} (h : serveResetCoil args s.reservePlace =
      { state := s.reservePlace, result := some r, data := [], role := .plain }) :
      exec (.resetCoil src args) s = .next (s.replied src 0x09#8 r.code []) :=
    congrArg Host.Outcome.next (takeAdmin_unchanged hroom hrestart h)
  have hfound (h : latched) : ¬ ¬ (s.coil c).state.latched = true := not_not.mpr ((latched_iff _).mpr h)
  have hunlocked (h : (s.coil c).state = .trip ∨ release = true) :
      ¬ ((s.coil c).state = .lockout ∧ release = false) := by
    rintro ⟨hlockout, hheld⟩
    simp [hlockout, hheld] at h
  have haccept (h : latched) (hrelease : (s.coil c).state = .trip ∨ release = true)
      (hclear : clearHolds s.contacts (s.coil c)) :
      serveResetCoil [BitVec.ofNat 8 c.val, if release then 1#8 else 0#8] s.reservePlace =
        .accept (s.reservePlace.resetCoil c) false := by
    rw [hserve, if_neg (hfound h), if_neg (hunlocked hrelease),
      if_neg (not_not.mpr ((clearConditions_iff _ _).mpr hclear))]
  refine ⟨fun h hclear => ?_, fun h hrelease hclear => ?_, fun h => ?_, fun h hheld => ?_,
    fun h hrelease hclear => ?_, fun args hbad => ?_⟩
  · exact ⟨_, rfl, takeAdmin_entered hroom hrestart (haccept (Or.inl h) (Or.inl h) hclear)
      (resetCoil_trip hc h)⟩
  · exact ⟨_, rfl, takeAdmin_entered hroom hrestart (haccept (Or.inr h) (Or.inr hrelease) hclear)
      (resetCoil_lockout hc h)⟩
  · exact hplain (r := .notLatched) (hserve.trans (if_pos (mt (latched_iff _).mp h)))
  · exact hplain (r := .locked) (hserve.trans ((if_neg (hfound (Or.inr h))).trans (if_pos ⟨h, hheld⟩)))
  · exact hplain (r := .notClear) (hserve.trans ((if_neg (hfound h)).trans
      ((if_neg (hunlocked hrelease)).trans (if_pos (mt (clearConditions_iff _ _).mp hclear)))))
  · exact hplain (r := .malformed) (serveResetCoil_malformed _ hbad)

end Sys2Proof.Machine
end

section
/-! The constraint of a set of active rules, the value it gives and what a recomputation stores (sections 5.1
and 5.2: O46). -/

namespace Sys2Proof.Machine

/-! ### Active rules (R82) -/

theorem mem_activeRules (rules : List (Option OverrideRule)) (levels : List Nat) (station channel : Nat)
    (q : OverrideRule) : q ∈ activeRules rules levels station channel ↔
      some q ∈ rules ∧ q.station = station ∧ q.channel = channel ∧
      ruleLevelNat q.level ≤ levels.getD q.coil.val 0 := by
  simp only [activeRules, ruleNames, ruleActive, List.mem_filter, List.mem_filterMap, id_eq, exists_eq_right,
    Bool.and_eq_true, beq_iff_eq, decide_eq_true_eq, and_assoc]

/-! ### The bounds of a constraint (R83) -/

/-- The greatest of a list and a start, as the fold that the model computes. -/
theorem foldl_max_greatest (xs : List Int) (a : Int) :
    xs.foldl max a ∈ a :: xs ∧ ∀ x ∈ a :: xs, x ≤ xs.foldl max a :=
  List.max?_eq_some_iff.mp List.max?_cons'

/-- The least of a list and a start, as the fold that the model computes. -/
theorem foldl_min_least {α : Type} [LinearOrder α] (xs : List α) (a : α) :
    xs.foldl min a ∈ a :: xs ∧ ∀ x ∈ a :: xs, xs.foldl min a ≤ x :=
  List.min?_eq_some_iff.mp List.min?_cons'

theorem isFloor_iff (q : OverrideRule) : isFloor q = true ↔ q.mode ≠ .ceiling := by simp [isFloor]

theorem isCeiling_iff (q : OverrideRule) : isCeiling q = true ↔ q.mode ≠ .floor := by simp [isCeiling]

section Values
variable (active : List OverrideRule) {p : OverrideRule → Bool} {limits : OverrideRule → Prop}
  (hp : ∀ q, p q = true ↔ limits q)
include hp

theorem mem_values {x : Int} : x ∈ (active.filter p).map OverrideRule.value ↔
    ∃ q ∈ active, limits q ∧ q.value = x := by
  simp only [List.mem_map, List.mem_filter, hp, and_assoc]

/-- LO: at least the value of every rule that counts and 0, and one of these. -/
theorem foldl_max_values : let lo := ((active.filter p).map OverrideRule.value).foldl max 0
    (∀ q ∈ active, limits q → q.value ≤ lo) ∧ 0 ≤ lo ∧ (lo = 0 ∨ ∃ q ∈ active, limits q ∧ q.value = lo) := by
  intro lo
  obtain ⟨hmem, hle⟩ := foldl_max_greatest ((active.filter p).map OverrideRule.value) 0
  refine ⟨fun q hq hl => hle _ (List.mem_cons_of_mem _ ((mem_values active hp).mpr ⟨q, hq, hl, rfl⟩)),
    hle 0 List.mem_cons_self, ?_⟩
  exact (List.mem_cons.mp hmem).imp_right (mem_values active hp).mp

/-- HI: at most the value of every rule that counts and 1000, and one of these. -/
theorem foldl_min_values : let hi := ((active.filter p).map OverrideRule.value).foldl min 1000
    (∀ q ∈ active, limits q → hi ≤ q.value) ∧ hi ≤ 1000 ∧
    (hi = 1000 ∨ ∃ q ∈ active, limits q ∧ q.value = hi) := by
  intro hi
  obtain ⟨hmem, hle⟩ := foldl_min_least ((active.filter p).map OverrideRule.value) 1000
  refine ⟨fun q hq hl => hle _ (List.mem_cons_of_mem _ ((mem_values active hp).mpr ⟨q, hq, hl, rfl⟩)),
    hle 1000 List.mem_cons_self, ?_⟩
  exact (List.mem_cons.mp hmem).imp_right (mem_values active hp).mp

theorem any_iff : active.any p = true ↔ ∃ q ∈ active, limits q := by
  simp only [List.any_eq_true, hp]

end Values

theorem constraintOf_eq_none_iff (active : List OverrideRule) : constraintOf active = none ↔ active = [] := by
  cases active <;> simp [constraintOf]

/-- The refresh period is the least of the active rules (R83). -/
theorem refreshPeriod_least (first : OverrideRule) (rest : List OverrideRule) :
    let period := (rest.map OverrideRule.refresh).foldl min first.refresh
    (∀ q ∈ first :: rest, period ≤ q.refresh) ∧ ∃ q ∈ first :: rest, q.refresh = period := by
  intro period
  obtain ⟨hmem, hle⟩ := foldl_min_least (rest.map OverrideRule.refresh) first.refresh
  rw [← List.map_cons (f := OverrideRule.refresh)] at hmem hle
  exact ⟨fun q hq => hle _ (List.mem_map_of_mem hq), List.mem_map.mp hmem⟩

theorem min?_eq_of_perm {xs ys : List Nat} (h : xs.Perm ys) : xs.min? = ys.min? := by
  ext a
  simp only [List.min?_eq_some_iff, h.mem_iff]

/-- The order of the active rules plays no part (R83). -/
theorem constraintOf_perm {a b : List OverrideRule} (h : a.Perm b) : constraintOf a = constraintOf b := by
  have hvalues (p : OverrideRule → Bool) :
      ((a.filter p).map OverrideRule.value).Perm ((b.filter p).map OverrideRule.value) := (h.filter p).map _
  cases a with
  | nil => rw [h.nil_eq]
  | cons first rest =>
    cases b with
    | nil => exact absurd h.eq_nil (List.cons_ne_nil _ _)
    | cons first' rest' =>
      have hperiod : (rest.map OverrideRule.refresh).foldl min first.refresh =
          (rest'.map OverrideRule.refresh).foldl min first'.refresh := by
        have hleast := min?_eq_of_perm (h.map OverrideRule.refresh)
        rw [List.map_cons, List.map_cons, List.min?_cons', List.min?_cons'] at hleast
        exact Option.some.inj hleast
      simp only [constraintOf, (hvalues isFloor).foldl_eq, (hvalues isCeiling).foldl_eq, h.any_eq, hperiod]

/-! ### The value given to an actuator (R84) -/

theorem Constraint.out_some (k : Constraint) (cmd : Int) : k.out (some cmd) =
    if k.hi < k.lo then k.lo
    else if within 0 1000 cmd < k.lo then k.lo
    else if k.hi < within 0 1000 cmd then k.hi else within 0 1000 cmd := by
  simp only [Constraint.out, clampInt_within (show (0 : Int) ≤ 1000 by decide)]

theorem Constraint.out_bounds {k : Constraint} (hlo : 0 ≤ k.lo ∧ k.lo ≤ 1000) (hhi : 0 ≤ k.hi ∧ k.hi ≤ 1000)
    (cmd : Option Int) : 0 ≤ k.out cmd ∧ k.out cmd ≤ 1000 := by
  cases cmd with
  | none =>
    rw [Constraint.out]
    split <;> assumption
  | some v =>
    rw [Constraint.out_some]
    split_ifs <;> omega

/-! ### The recomputation of a record (R85 to R87, R89) -/

theorem needUnder_eq (k : Constraint) (r : ActuatorRecord) (clock : Nat) :
    needUnder k r clock = boundNeed k r r.ackedValue clock := by
  unfold needUnder boundNeed Need.toProtect
  rfl

/-- RESTORE when the constraint that was there asked for it and the command has not been acknowledged, else
NONE; without one before, the need stands (R87). -/
theorem needReleased_cases (r : ActuatorRecord) (clock : Nat) :
    let restores := ∃ b v, r.constraint = some b ∧ b.restoreAsked = true ∧ r.cmdLast = some v ∧
      r.ackedValue ≠ some v
    (restores → needReleased r clock = .restore clock) ∧
    (r.constraint ≠ none → ¬ restores → needReleased r clock = .none) ∧
    (r.constraint = none → needReleased r clock = r.need) := by
  intro restores
  unfold needReleased
  refine ⟨?_, fun hbefore hnot => ?_, fun h => ?_⟩
  · rintro ⟨b, v, hb, hasked, hcmd, hacked⟩
    rw [hb]
    exact if_pos ⟨hasked, by simp [hcmd], by rwa [hcmd]⟩
  · obtain ⟨b, hb⟩ := Option.ne_none_iff_exists'.mp hbefore
    rw [hb]
    refine if_neg ?_
    rintro ⟨hasked, hcmd, hacked⟩
    obtain ⟨v, hv⟩ := Option.isSome_iff_exists.mp hcmd
    exact hnot ⟨b, v, hb, hasked, hv, hv ▸ hacked⟩
  · rw [h]

/-- Settles O46: each part of R82 to R89 by the definition that it describes. -/
theorem constraintAndItsValue : Obligations.ConstraintAndItsValue := by
  refine ⟨mem_activeRules, rfl, constraintOf_eq_none_iff, fun active k hk => ?_, fun _ _ => constraintOf_perm,
    fun k cmd => ?_, fun _ => rfl, fun active k cmd hk hrules => ?_, fun rules levels clock r => ?_⟩
  · cases active with
    | nil => cases hk
    | cons first rest =>
      obtain ⟨hlo, hzero, hlo'⟩ := foldl_max_values (first :: rest) isFloor_iff
      obtain ⟨hhi, htop, hhi'⟩ := foldl_min_values (first :: rest) isCeiling_iff
      obtain ⟨hperiod, hperiod'⟩ := refreshPeriod_least first rest
      cases hk
      exact ⟨hlo, hzero, hlo', hhi, htop, hhi', decide_eq_true_iff, any_iff _ isFloor_iff, hperiod, hperiod',
        List.any_eq_true⟩
  · rw [Constraint.out_some]
    refine ⟨fun h => if_pos h, fun h h' => ?_, fun h h' => ?_, fun h h' => ?_⟩ <;> split_ifs <;> omega
  · obtain ⟨hlo, hlo', hhi, hhi'⟩ := constraintOf_bounds hrules hk
    exact Constraint.out_bounds ⟨hlo, hlo'⟩ ⟨hhi, hhi'⟩ cmd
  · intro after constraint restores
    obtain ⟨hrestore, hdone, hkept⟩ := needReleased_cases r clock
    have hafter : after = recomputeRecord rules levels clock r := rfl
    unfold recomputeRecord at hafter
    cases hfound : constraint with
    | some k =>
      rw [show constraintOf _ = some k from hfound] at hafter
      rw [hafter]
      refine ⟨rfl, ?_, nofun, nofun, nofun⟩
      rintro _ ⟨⟩
      exact needUnder_eq k r clock
    | none =>
      rw [show constraintOf _ = none from hfound] at hafter
      rw [hafter]
      exact ⟨rfl, nofun, fun _ => hrestore, fun _ => hdone, fun _ => hkept⟩

end Sys2Proof.Machine
end

section
/-! A debounced contact change (R67, R112): each coil takes it on its own, and the trip output is derived anew
after all of them (O51). -/

namespace Sys2Proof.Machine

/-! ### What the change of one coil leaves of the others -/

/-- What taking a contact change leaves besides the coils that take it: the readings of the contacts, the
sizes of the tables and an urgent mark that is set. -/
structure KeepsReadings (s t : State) : Prop where
  same : sameOutsideProtection s t
  inputs : t.contacts.inputs = s.contacts.inputs
  settled : t.contacts.settled = s.contacts.settled
  ticks : t.contacts.ticks = s.contacts.ticks
  coilCount : t.coils.length = s.coils.length
  levelCount : t.heldLevels.length = s.heldLevels.length
  noticeCount : t.notice.coils.length = s.notice.coils.length
  urgent : s.notice.urgent = .set → t.notice.urgent = .set

/-- Coil `c`, its held level and its place in the pending set are left alone. -/
structure Spares (s t : State) (c : CoilId) : Prop where
  coil : t.coil c = s.coil c
  heldLevel : t.heldLevels[c.val]? = s.heldLevels[c.val]?
  notice : t.notice.coils[c.val]? = s.notice.coils[c.val]?

theorem KeepsReadings.refl (s : State) : KeepsReadings s s :=
  ⟨rfl, rfl, rfl, rfl, rfl, rfl, rfl, id⟩

theorem KeepsReadings.trans {s t u : State} (h : KeepsReadings s t) (h' : KeepsReadings t u) :
    KeepsReadings s u where
  same := sameOutsideProtection_trans h.same h'.same
  inputs := h'.inputs.trans h.inputs
  settled := h'.settled.trans h.settled
  ticks := h'.ticks.trans h.ticks
  coilCount := h'.coilCount.trans h.coilCount
  levelCount := h'.levelCount.trans h.levelCount
  noticeCount := h'.noticeCount.trans h.noticeCount
  urgent := fun hs => h'.urgent (h.urgent hs)

theorem KeepsReadings.plantClock {s t : State} (h : KeepsReadings s t) : t.plantClock = s.plantClock :=
  (congrArg State.plantClock h.same).trans rfl

theorem KeepsReadings.reads {s t : State} (h : KeepsReadings s t) : t.contacts.reads = s.contacts.reads := by
  funext i
  rw [ContactBlock.reads, ContactBlock.reads, h.inputs, h.settled]

theorem Spares.refl (s : State) (c : CoilId) : Spares s s c := ⟨rfl, rfl, rfl⟩

theorem Spares.trans {s t u : State} {c : CoilId} (h : Spares s t c) (h' : Spares t u c) : Spares s u c :=
  ⟨h'.coil.trans h.coil, h'.heldLevel.trans h.heldLevel, h'.notice.trans h.notice⟩

section OneCoil
variable {s t : State} {c d : CoilId} {k : Coil} {new : CoilState} {cause : Option Cause}

theorem Entered.keepsReadings (h : Entered s t c k new cause) : KeepsReadings s t := by
  obtain ⟨hinputs, hsettled, hticks⟩ :=
    ContactBlock.driveAfter_inputs s.contacts s.globals.plantTripRelease t.wantsDrive
  rw [← h.contacts] at hinputs hsettled hticks
  refine ⟨h.frame, hinputs, hsettled, hticks, ?_, ?_, ?_, fun hurgent => ?_⟩
  · rw [h.coils, List.length_set]
  · rw [h.heldLevels]
    split
    · rfl
    · exact List.length_set ..
  · rw [h.notice]
    exact List.length_set ..
  · rw [h.notice]
    dsimp only
    rw [hurgent, ite_self]

theorem Entered.spares (h : Entered s t c k new cause) (hd : d ≠ c) : Spares s t d := by
  have hval : c.val ≠ d.val := fun heq => hd (Fin.ext heq.symm)
  refine ⟨h.coil_other hd, ?_, ?_⟩
  · rw [h.heldLevels]
    split
    · rfl
    · exact List.getElem?_set_ne hval
  · rw [h.notice]
    exact List.getElem?_set_ne hval

theorem setCoil_spares (hd : d ≠ c) : Spares s (s.setCoil c k) d := ⟨s.coil_setCoil_ne k hd, rfl, rfl⟩

theorem setCoil_keepsReadings : KeepsReadings s (s.setCoil c k) :=
  ⟨rfl, rfl, rfl, rfl, State.setCoil_length s c k, rfl, rfl, id⟩

end OneCoil

/-! ### How one coil takes the change (R67) -/

section Take
variable {s : State} {i : Fin 16} {new : ContactState}

/-- The record makes the coil cold by its input `i`, once that reads the new state (R67, R113). -/
theorem contactCold_iff_turnsCold (hreads : s.contacts.reads i = some new) (k : Coil) :
    (k.cfg.contact.map ContactRef.input = some i ∧ contactCold s.contacts k.cfg = true) ↔
      turnsCold k i new := by
  unfold contactCold turnsCold
  cases k.cfg.contact with
  | none => simp
  | some r =>
    simp only [Option.map_some, Option.some.injEq, beq_iff_eq, exists_eq_left']
    refine and_congr_right fun hinput => ?_
    rw [hinput, hreads, Option.some.injEq]
    rfl

variable {c : CoilId}

theorem takeContactChange_tripped (hc : c.val < s.coils.length) (hreads : s.contacts.reads i = some new)
    (hcold : turnsCold (s.coil c) i new) (hstate : unlatched (s.coil c).state) :
    Tripped s (s.takeContactChange i c) c (s.coil c) .contact := by
  have htrip := s.tripCoil_tripped c (s.coil c) .contact hc
  rw [State.setCoil_coil] at htrip
  unfold State.takeContactChange
  dsimp only
  rw [if_pos ((contactCold_iff_turnsCold hreads _).mpr hcold)]
  rcases hstate with h | h | h | h <;> rw [h] <;> exact htrip

theorem takeContactChange_trip (hreads : s.contacts.reads i = some new)
    (hcold : turnsCold (s.coil c) i new) (hstate : (s.coil c).state = .trip) :
    s.takeContactChange i c = s.setCoil c { s.coil c with autoResetTimer := 0 } := by
  unfold State.takeContactChange
  dsimp only
  rw [if_pos ((contactCold_iff_turnsCold hreads _).mpr hcold), hstate]

theorem takeContactChange_stays (hreads : s.contacts.reads i = some new)
    (h : ¬ turnsCold (s.coil c) i new ∨ (s.coil c).state = .offline ∨ (s.coil c).state = .lockout) :
    s.takeContactChange i c = s := by
  unfold State.takeContactChange
  dsimp only
  rcases h with h | h | h
  · exact if_neg (mt (contactCold_iff_turnsCold hreads _).mp h)
  · rw [h]
    exact ite_self s
  · rw [h]
    exact ite_self s

/-- A coil takes the change in one of these three ways. -/
theorem takeContactChange_cases (hc : c.val < s.coils.length) (hreads : s.contacts.reads i = some new) :
    Tripped s (s.takeContactChange i c) c (s.coil c) .contact ∨
    s.takeContactChange i c = s.setCoil c { s.coil c with autoResetTimer := 0 } ∨
    s.takeContactChange i c = s := by
  by_cases hcold : turnsCold (s.coil c) i new
  · cases hstate : (s.coil c).state with
    | offline => exact .inr (.inr (takeContactChange_stays hreads (.inr (.inl hstate))))
    | lockout => exact .inr (.inr (takeContactChange_stays hreads (.inr (.inr hstate))))
    | trip => exact .inr (.inl (takeContactChange_trip hreads hcold hstate))
    | startup => exact .inl (takeContactChange_tripped hc hreads hcold (.inl hstate))
    | normal => exact .inl (takeContactChange_tripped hc hreads hcold (.inr (.inl hstate)))
    | watch => exact .inl (takeContactChange_tripped hc hreads hcold (.inr (.inr (.inl hstate))))
    | guard => exact .inl (takeContactChange_tripped hc hreads hcold (.inr (.inr (.inr hstate))))
  · exact .inr (.inr (takeContactChange_stays hreads (.inl hcold)))

theorem takeContactChange_keeps (hc : c.val < s.coils.length) (hreads : s.contacts.reads i = some new) :
    KeepsReadings s (s.takeContactChange i c) ∧ ∀ d, d ≠ c → Spares s (s.takeContactChange i c) d := by
  rcases takeContactChange_cases hc hreads with h | h | h
  · exact ⟨Entered.keepsReadings h, fun d hd => Entered.spares h hd⟩
  · rw [h]
    exact ⟨setCoil_keepsReadings, fun d hd => setCoil_spares hd⟩
  · rw [h]
    exact ⟨.refl s, fun d _ => .refl s d⟩

end Take

/-! ### All coils, one after another (R112) -/

/-- Coils that take the change one after another leave the readings, and every coil that is not among them. -/
theorem foldl_takeContactChange_keeps {i : Fin 16} {new : ContactState} (cs : List CoilId) {s : State}
    (hlen : s.coils.length = 16) (hreads : s.contacts.reads i = some new) :
    let t := cs.foldl (fun s c => s.takeContactChange i c) s
    KeepsReadings s t ∧ ∀ d, d ∉ cs → Spares s t d := by
  induction cs generalizing s with
  | nil => exact ⟨.refl s, fun d _ => .refl s d⟩
  | cons c cs ih =>
    obtain ⟨hkeeps, hspares⟩ := takeContactChange_keeps (c := c) (by omega) hreads
    obtain ⟨hrest, hrest'⟩ := ih (hkeeps.coilCount.trans hlen) (by rw [hkeeps.reads, hreads])
    refine ⟨hkeeps.trans hrest, fun d hd => ?_⟩
    rw [List.mem_cons, not_or] at hd
    exact (hspares d hd.1).trans (hrest' d hd.2)

/-- All coils take the change of an input, in ascending coil number (R112, log 8). -/
def State.coilsTakeChange (s : State) (i : Fin 16) : State :=
  coilIds.foldl (fun s c => s.takeContactChange i c) s

theorem State.handContactChange_eq (s : State) (i : Fin 16) :
    s.handContactChange i = (s.coilsTakeChange i).raiseContactChange.deriveTripOutput := rfl

theorem coilsTakeChange_keeps {s : State} {i : Fin 16} {new : ContactState} (hlen : s.coils.length = 16)
    (hreads : s.contacts.reads i = some new) : KeepsReadings s (s.coilsTakeChange i) :=
  (foldl_takeContactChange_keeps coilIds hlen hreads).1

/-- Each coil has one turn: up to it the coil stands as at the beginning, and after it as its turn left it. -/
theorem coilsTakeChange_turn {i : Fin 16} {new : ContactState} {s : State}
    (hlen : s.coils.length = 16) (hreads : s.contacts.reads i = some new) (c : CoilId) :
    ∃ u, KeepsReadings s u ∧ Spares s u c ∧
      KeepsReadings (u.takeContactChange i c) (s.coilsTakeChange i) ∧
      Spares (u.takeContactChange i c) (s.coilsTakeChange i) c := by
  obtain ⟨before, after, hsplit⟩ := List.append_of_mem (List.mem_finRange c)
  have hnodup : (before ++ c :: after).Nodup := hsplit ▸ List.nodup_finRange 16
  obtain ⟨-, hafter, hdisjoint⟩ := List.nodup_append.mp hnodup
  have hbefore : c ∉ before := fun hm => hdisjoint c hm c List.mem_cons_self rfl
  rw [State.coilsTakeChange, coilIds, hsplit, List.foldl_append, List.foldl_cons]
  obtain ⟨hkeeps, hspares⟩ := foldl_takeContactChange_keeps before hlen hreads
  generalize before.foldl (fun s c => s.takeContactChange i c) s = u at hkeeps hspares ⊢
  have hulen := hkeeps.coilCount.trans hlen
  have hureads : u.contacts.reads i = some new := by rw [hkeeps.reads, hreads]
  have hturn := (takeContactChange_keeps (c := c) (by omega) hureads).1
  obtain ⟨hrest, hrest'⟩ := foldl_takeContactChange_keeps after (hturn.coilCount.trans hulen)
    (i := i) (new := new) (by rw [hturn.reads, hureads])
  exact ⟨u, hkeeps, hspares c hbefore, hrest, hrest' c (List.nodup_cons.mp hafter).1⟩

/-- The level of the state that a trip leads to (R58, R65). -/
theorem tripState_level (k : Coil) (clock : Nat) :
    (k.tripState clock).level = 3 ∧ (k.tripState clock).latched = true := by
  unfold Coil.tripState
  split <;> decide

theorem level_ne_of_unlatched {x : CoilState} (h : unlatched x) : 3 ≠ x.level := by
  rcases h with rfl | rfl | rfl | rfl <;> decide

/-- What a trip leaves: the record, level 3 handed over, the urgent mark and the coil in the pending set. -/
theorem Tripped.marks {s t : State} {c : CoilId} {k : Coil} {cause : Cause} (h : Tripped s t c k cause)
    (hlen : s.coils.length = 16) (hlevels : s.heldLevels.length = 16) (hstate : unlatched k.state) :
    t.coil c = (k.tripRecorded s.plantClock).entering (k.tripState s.plantClock) (some cause) s.plantClock ∧
    t.heldLevels[c.val]? = some 3 ∧ t.notice.urgent = .set ∧
    (c.val < s.notice.coils.length → t.notice.coils[c.val]? = some .set) := by
  obtain ⟨hlevel, hlatched⟩ := tripState_level k s.plantClock
  refine ⟨Entered.coil_self h (by omega), ?_, ?_, fun hn => ?_⟩
  · rw [h.heldLevels, hlevel, if_neg (show ¬ 3 = (k.tripRecorded s.plantClock).state.level from
      level_ne_of_unlatched hstate), List.getElem?_set_self (by omega)]
  · rw [h.notice]
    exact if_pos hlatched
  · rw [h.notice]
    exact List.getElem?_set_self hn

section Turns
variable {s : State} {i : Fin 16} {new : ContactState} (hlen : s.coils.length = 16)
  (hreads : s.contacts.reads i = some new) {c : CoilId}
include hlen hreads

/-- A coil in service and not latched that the change makes cold trips in its turn. -/
theorem coilsTakeChange_tripped (hlevels : s.heldLevels.length = 16) (hcold : turnsCold (s.coil c) i new)
    (hstate : unlatched (s.coil c).state) : let t := s.coilsTakeChange i
    t.coil c = ((s.coil c).tripRecorded s.plantClock).entering ((s.coil c).tripState s.plantClock)
      (some .contact) s.plantClock ∧
    t.heldLevels[c.val]? = some 3 ∧ t.notice.urgent = .set ∧
    (c.val < s.notice.coils.length → t.notice.coils[c.val]? = some .set) := by
  obtain ⟨u, hku, hsu, hkt, hst⟩ := coilsTakeChange_turn hlen hreads c
  have hulen := hku.coilCount.trans hlen
  rw [← hsu.coil] at hcold hstate
  have htripped := takeContactChange_tripped (by omega) (by rw [hku.reads, hreads]) hcold hstate
  obtain ⟨hrecord, hlevel, hmark, hjoins⟩ := htripped.marks hulen (hku.levelCount.trans hlevels) hstate
  rw [hsu.coil, hku.plantClock] at hrecord
  exact ⟨hst.coil.trans hrecord, hst.heldLevel.trans hlevel, hkt.urgent hmark,
    fun hn => hst.notice.trans (hjoins (lt_of_lt_of_eq hn hku.noticeCount.symm))⟩

theorem coilsTakeChange_trip (hcold : turnsCold (s.coil c) i new) (hstate : (s.coil c).state = .trip) :
    (s.coilsTakeChange i).coil c = { s.coil c with autoResetTimer := 0 } := by
  obtain ⟨u, hku, hsu, -, hst⟩ := coilsTakeChange_turn hlen hreads c
  have hulen := hku.coilCount.trans hlen
  rw [← hsu.coil] at hcold hstate
  rw [hst.coil, takeContactChange_trip (by rw [hku.reads, hreads]) hcold hstate,
    u.coil_setCoil c _ (by omega), hsu.coil]

theorem coilsTakeChange_stays
    (h : ¬ turnsCold (s.coil c) i new ∨ (s.coil c).state = .offline ∨ (s.coil c).state = .lockout) :
    (s.coilsTakeChange i).coil c = s.coil c := by
  obtain ⟨u, hku, hsu, -, hst⟩ := coilsTakeChange_turn hlen hreads c
  rw [← hsu.coil] at h
  rw [hst.coil, takeContactChange_stays (by rw [hku.reads, hreads]) h, hsu.coil]

end Turns

/-- What deriving the trip output leaves: all but the contact block's output and the plant-trip event. -/
theorem deriveTripOutput_fields (s : State) :
    let t := s.deriveTripOutput
    t.coils = s.coils ∧ t.heldLevels = s.heldLevels ∧ t.notice.coils = s.notice.coils ∧
    t.notice.urgent = s.notice.urgent ∧ t.notice.contactChange = s.notice.contactChange ∧
    t.contacts.inputs = s.contacts.inputs ∧ t.contacts.settled = s.contacts.settled ∧
    t.contacts.ticks = s.contacts.ticks ∧ t.contacts.driven = t.wantsDrive := by
  intro t
  have hdriven : t.contacts.driven = t.wantsDrive :=
    s.deriveTripOutput_driven.trans s.deriveTripOutput_wantsDrive.symm
  have ht : t = _ := s.deriveTripOutput_eq
  obtain ⟨hinputs, hsettled, hticks⟩ :=
    ContactBlock.driveAfter_inputs s.contacts s.globals.plantTripRelease s.wantsDrive
  refine ⟨?_, ?_, ?_, ?_, ?_, ?_, ?_, ?_, hdriven⟩ <;> rw [ht]
  exacts [hinputs, hsettled, hticks]

/-- A change that input `i` reads, handed on: every coil has taken it, the flag is set and the trip output
stands as R114 derives it (R112). -/
theorem handContactChange_spec {s : State} {i : Fin 16} {new : ContactState} (hlen : s.coils.length = 16)
    (hlevels : s.heldLevels.length = 16) (hreads : s.contacts.reads i = some new) :
    let t := s.handContactChange i
    t.contacts.inputs = s.contacts.inputs ∧ t.contacts.settled = s.contacts.settled ∧
    t.contacts.ticks = s.contacts.ticks ∧ t.notice.contactChange = .set ∧
    t.contacts.driven = t.wantsDrive ∧
    ∀ c : CoilId,
      (turnsCold (s.coil c) i new → unlatched (s.coil c).state →
        t.coil c = ((s.coil c).tripRecorded s.plantClock).entering ((s.coil c).tripState s.plantClock)
          (some .contact) s.plantClock ∧
        t.heldLevels[c.val]? = some 3 ∧ t.notice.urgent = .set ∧
        (c.val < s.notice.coils.length → t.notice.coils[c.val]? = some .set)) ∧
      (turnsCold (s.coil c) i new → (s.coil c).state = .trip →
        t.coil c = { s.coil c with autoResetTimer := 0 }) ∧
      (¬ turnsCold (s.coil c) i new ∨ (s.coil c).state = .offline ∨ (s.coil c).state = .lockout →
        t.coil c = s.coil c) := by
  have hkeeps := coilsTakeChange_keeps hlen hreads
  have htripped (c : CoilId) := coilsTakeChange_tripped (c := c) hlen hreads hlevels
  have htrip (c : CoilId) := coilsTakeChange_trip (c := c) hlen hreads
  have hstays (c : CoilId) := coilsTakeChange_stays (c := c) hlen hreads
  rw [State.handContactChange_eq]
  generalize s.coilsTakeChange i = u at hkeeps htripped htrip hstays ⊢
  obtain ⟨hcoils, hheld, hpending, hurgent, hflag, hinputs, hsettled, hticks, hdriven⟩ :=
    deriveTripOutput_fields u.raiseContactChange
  have hcoil (c : CoilId) : u.raiseContactChange.deriveTripOutput.coil c = u.coil c := by
    rw [State.coil, hcoils]
    rfl
  refine ⟨hinputs.trans hkeeps.inputs, hsettled.trans hkeeps.settled, hticks.trans hkeeps.ticks, hflag,
    hdriven, fun c => ?_⟩
  rw [hcoil, hheld, hurgent, hpending]
  exact ⟨htripped c, htrip c, hstays c⟩

/-- The contact block in which an input takes a new state (R109, R112). -/
def ContactBlock.changed (b : ContactBlock) (i : Fin 16) (new : ContactState) : ContactBlock :=
  { b with inputs := b.inputs.set i.val { debounced := new, run := 0 } }

theorem ContactBlock.changed_reads {b : ContactBlock} {i : Fin 16} {new : ContactState}
    (hinputs : b.inputs.length = 16) (hsettled : b.settled = true) :
    (b.changed i new).reads i = some new := by
  rw [ContactBlock.reads, if_pos (show (b.changed i new).settled = true from hsettled),
    show (b.changed i new).inputs = b.inputs.set i.val { debounced := new, run := 0 } from rfl,
    List.getElem?_set_self (by omega)]
  rfl

theorem exec_debouncedContactChange {s : State} {i : Fin 16} {new : ContactState}
    (hsettled : s.contacts.settled = true)
    (hnew : (s.contacts.inputs[i.val]?).map ContactInput.debounced ≠ some new) :
    exec (.debouncedContactChange i new) s =
      .next ((s.withContacts (s.contacts.changed i new)).handContactChange i) :=
  congrArg Host.Outcome.next (if_pos ⟨hsettled, hnew⟩)

/-- Settles O51: each coil takes the change in its turn, the others left alone. -/
theorem contactChangeTripsItsCoils : Obligations.ContactChangeTripsItsCoils := by
  intro s i new hlen hlevels hinputs hsettled hnew
  have hexec := exec_debouncedContactChange hsettled hnew
  have hsame := (s.withContacts (s.contacts.changed i new)).handContactChange_same i
  have hspec := handContactChange_spec (s := s.withContacts (s.contacts.changed i new)) hlen hlevels
    (ContactBlock.changed_reads hinputs hsettled)
  generalize (s.withContacts (s.contacts.changed i new)).handContactChange i = t at hexec hsame hspec
  obtain ⟨hin, hset, hticks, hflag, hdriven, htaken⟩ := hspec
  exact ⟨t, hexec, hsame, hin, hset.trans hsettled, hticks, hflag, hdriven, htaken⟩

end Sys2Proof.Machine
end

section
/-! What the override law and the trip-line law look at, the changes that they do not see, and the operations
of the override unit and of the trip line in their terms (R82, R83, R85, R114). -/

namespace Sys2Proof.Machine

/-! ### What the two laws look at -/

/-- What the override law sees of an actuator record: its key and its constraint. -/
def boundTo (r : ActuatorRecord) : (Nat × Nat) × Option Constraint := (recordKey r, r.constraint)

/-- What the two laws see of a state. -/
structure LawView where
  coils : List (Nat × Bool)
  rules : List (Option OverrideRule)
  heldLevels : List Nat
  records : List (Option ((Nat × Nat) × Option Constraint))
  fallback : Bool
  settled : Bool
  inputs : List ContactState
  driven : Bool

/-- What the two laws see of the part as it stands. -/
def State.lawView (s : State) : LawView where
  coils := s.coils.map (fun k => (k.state.level, k.drives))
  rules := s.rules
  heldLevels := s.heldLevels
  records := s.records.map (Option.map boundTo)
  fallback := s.fallback
  settled := s.contacts.settled
  inputs := s.contacts.inputs.map ContactInput.debounced
  driven := s.contacts.driven

/-- The trip output as R114 derives it from what the laws see. -/
def LawView.wantsDrive (v : LawView) : Bool :=
  v.coils.any Prod.snd || (v.fallback && (v.settled && v.inputs.any (· == .opened)))

theorem lawView_wantsDrive (s : State) : s.lawView.wantsDrive = s.wantsDrive := by
  simp [LawView.wantsDrive, State.lawView, State.wantsDrive, ContactBlock.anyReadsOpen, Function.comp_def]

/-- The record's constraint is the one that the active rules give (R83, R85). -/
def BoundByRules (rules : List (Option OverrideRule)) (levels : List Nat) (r : ActuatorRecord) : Prop :=
  r.constraint = constraintOf (activeRules rules levels r.station r.channel)

theorem lawView_overrideLaw (s : State) : s.OverrideLaw ↔
    s.lawView.heldLevels = s.lawView.coils.map Prod.fst ∧
    ∀ b, some b ∈ s.lawView.records →
      b.2 = constraintOf (activeRules s.lawView.rules s.lawView.heldLevels b.1.1 b.1.2) := by
  have hfst : s.lawView.coils.map Prod.fst = s.coils.map (fun k => k.state.level) := List.map_map
  rw [hfst]
  constructor
  · rintro ⟨hlevels, hbound⟩
    refine ⟨hlevels, fun b hb => ?_⟩
    obtain ⟨r, hr, rfl⟩ := mem_map_some hb
    exact hbound r hr
  · rintro ⟨hlevels, hbound⟩
    exact ⟨hlevels, fun r hr => hbound (boundTo r) (List.mem_map.mpr ⟨some r, hr, rfl⟩)⟩

/-! ### Keeping the two laws -/

/-- An event keeps the laws of the override unit and the trip line: each that held before it holds after it. -/
structure KeepsLaws (s t : State) : Prop where
  override : s.OverrideLaw → t.OverrideLaw
  drive : s.contacts.driven = s.wantsDrive → t.contacts.driven = t.wantsDrive

theorem KeepsLaws.refl (s : State) : KeepsLaws s s := ⟨id, id⟩

theorem KeepsLaws.trans {s t u : State} (h : KeepsLaws s t) (h' : KeepsLaws t u) : KeepsLaws s u :=
  ⟨h'.override ∘ h.override, h'.drive ∘ h.drive⟩

theorem KeepsLaws.foldl {α : Type} (f : State → α → State) (h : ∀ s a, KeepsLaws s (f s a))
    (xs : List α) (s : State) : KeepsLaws s (xs.foldl f s) := by
  induction xs generalizing s with
  | nil => exact .refl s
  | cons a xs ih => exact (h s a).trans (ih _)

/-- A change that the laws do not see. -/
theorem KeepsLaws.unseen {s t : State} (h : t.lawView = s.lawView) : KeepsLaws s t where
  override hs := by
    rw [lawView_overrideLaw, h, ← lawView_overrideLaw]
    exact hs
  drive hs := by
    rw [← lawView_wantsDrive, h, lawView_wantsDrive, ← hs]
    exact congrArg LawView.driven h

/-- What an event keeps, it keeps after a change that the laws do not see. -/
theorem KeepsLaws.afterUnseen {s t u : State} (h : KeepsLaws t u) (ht : t.lawView = s.lawView) :
    KeepsLaws s u := (KeepsLaws.unseen ht).trans h

variable (s : State)

/-! ### Actuator records -/

theorem KeepsLaws.withRecords {rs : List (Option ActuatorRecord)}
    (h : rs.map (Option.map boundTo) = s.records.map (Option.map boundTo)) : KeepsLaws s (s.withRecords rs) :=
  .unseen (congrArg (fun x => { s.lawView with records := x }) h)

theorem map_boundTo {f : ActuatorRecord → ActuatorRecord} (h : ∀ r, boundTo (f r) = boundTo r)
    (records : List (Option ActuatorRecord)) :
    (records.map (Option.map f)).map (Option.map boundTo) = records.map (Option.map boundTo) := by
  rw [List.map_map]
  exact List.map_congr_left fun o _ => by cases o <;> simp [h]

theorem updateRecords_boundTo {f : ActuatorRecord → ActuatorRecord} (h : ∀ r, boundTo (f r) = boundTo r)
    (records : List (Option ActuatorRecord)) (station channel : Nat) :
    (updateRecords records station channel f).map (Option.map boundTo) = records.map (Option.map boundTo) :=
  map_boundTo (fun r => by split <;> simp only [h]) records

theorem rewriteItems_boundTo (dest : Byte) (records : List (Option ActuatorRecord))
    (items : List (Byte × Int)) :
    (rewriteItems dest records items).1.map (Option.map boundTo) = records.map (Option.map boundTo) := by
  induction items generalizing records with
  | nil => rfl
  | cons item rest ih =>
    unfold rewriteItems
    dsimp only
    split
    · exact ih records
    · exact (ih _).trans (updateRecords_boundTo (f := (·.capture item.2)) (fun _ => rfl) records _ _)

theorem takeAppliedItems_boundTo (src : Byte) (clock : Nat) (records : List (Option ActuatorRecord))
    (items : List (Byte × Int)) :
    (items.foldl (takeAppliedItem src clock) records).map (Option.map boundTo) =
      records.map (Option.map boundTo) := by
  induction items generalizing records with
  | nil => rfl
  | cons item items ih =>
    exact (ih _).trans (updateRecords_boundTo (f := (·.takeEcho clock item.2)) (fun _ => rfl) records _ _)

/-! ### Recomputation (R85) -/

theorem recomputeRecord_bound (rules : List (Option OverrideRule)) (levels : List Nat) (clock : Nat)
    (r : ActuatorRecord) : BoundByRules rules levels (recomputeRecord rules levels clock r) := by
  unfold BoundByRules recomputeRecord
  cases h : constraintOf (activeRules rules levels r.station r.channel) <;> exact h.symm

/-- The records that a recomputation does not name must have been bound before it. -/
theorem recomputeWhere_overrideLaw {s : State} {named : ActuatorRecord → Bool}
    (hlevels : s.heldLevels = s.coils.map (fun k => k.state.level))
    (h : ∀ r, some r ∈ s.records → named r = false → BoundByRules s.rules s.heldLevels r) :
    (s.recomputeWhere named).OverrideLaw := by
  refine ⟨hlevels, fun r' hr' => ?_⟩
  obtain ⟨r, hr, rfl⟩ := mem_map_some hr'
  cases hn : named r with
  | true => exact recomputeRecord_bound s.rules s.heldLevels s.plantClock r
  | false => exact h r hr hn

/-- A recomputation of all records binds them, whatever stood before (R105, R106). -/
theorem takeLevelsAndRecompute_overrideLaw : s.takeLevelsAndRecompute.OverrideLaw :=
  recomputeWhere_overrideLaw rfl (fun _ _ hn => by cases hn)

/-! ### Levels handed over (R60, R82) -/

/-- A coil whose rules do not name a record has no say in its constraint. -/
theorem activeRules_set_level {rules : List (Option OverrideRule)} {c : CoilId} {r : ActuatorRecord}
    (h : namedByCoil rules c r = false) (levels : List Nat) (level : Nat) :
    activeRules rules (levels.set c.val level) r.station r.channel =
      activeRules rules levels r.station r.channel := by
  refine List.filter_congr fun q hq => ?_
  cases hnames : ruleNames q r.station r.channel with
  | false => rfl
  | true =>
    have hother : c.val ≠ q.coil.val := fun he => by
      have hq := List.any_eq_false.mp h q hq
      rw [hnames, Fin.ext he.symm] at hq
      simp at hq
    rw [ruleActive, ruleActive, List.getD_eq_getElem?_getD, List.getElem?_set_ne hother,
      ← List.getD_eq_getElem?_getD]

/-- The held level of a coil written again. -/
theorem heldLevels_set_same {s : State} (h : s.heldLevels = s.coils.map (fun k => k.state.level)) (c : CoilId) :
    s.heldLevels.set c.val (s.coil c).state.level = s.heldLevels := by
  have hcoils : s.coils.set c.val (s.coil c) = s.coils := congrArg State.coils (s.setCoil_coil c)
  rw [h, ← List.map_set (f := fun k : Coil => k.state.level), hcoils]

/-- A coil's new level handed over with its record: the held levels follow and its records are recomputed. -/
theorem handLevelFrom_overrideLaw {s : State} {c : CoilId} {k : Coil} (hs : s.OverrideLaw) :
    ((s.setCoil c k).handLevelFrom c (s.coil c).state.level k.state.level).OverrideLaw := by
  obtain ⟨hlevels, hbound⟩ := hs
  have hnew : (s.coils.set c.val k).map (fun k => k.state.level) = s.heldLevels.set c.val k.state.level := by
    rw [List.map_set, hlevels]
  unfold State.handLevelFrom
  split
  · rename_i hsame
    rw [hsame, heldLevels_set_same hlevels] at hnew
    exact ⟨hnew.symm, hbound⟩
  · refine recomputeWhere_overrideLaw hnew.symm fun r hr hn => ?_
    exact (hbound r hr).trans (congrArg constraintOf (activeRules_set_level hn _ _)).symm

/-! ### The trip output (R114, R118) -/

theorem deriveTripOutput_drives : s.deriveTripOutput.contacts.driven = s.deriveTripOutput.wantsDrive :=
  s.deriveTripOutput_driven.trans s.deriveTripOutput_wantsDrive.symm

/-- The override law does not see the contact block nor the notice pending state. -/
theorem State.OverrideLaw.congr {s t : State} (hs : s.OverrideLaw)
    (hcoils : t.coils.map (fun k => k.state.level) = s.coils.map (fun k => k.state.level))
    (hlevels : t.heldLevels = s.heldLevels) (hrules : t.rules = s.rules) (hrecords : t.records = s.records) :
    t.OverrideLaw where
  levels := by rw [hlevels, hcoils]; exact hs.levels
  constraints := by rw [hlevels, hrules, hrecords]; exact hs.constraints

theorem KeepsLaws.deriveTripOutput : KeepsLaws s s.deriveTripOutput where
  override hs := by
    rw [State.deriveTripOutput_eq]
    exact hs.congr rfl rfl rfl rfl
  drive _ := deriveTripOutput_drives s

theorem changeSense_lawView (high : Bool) : (s.changeSense high).lawView = s.lawView := by
  unfold State.changeSense
  dsimp only
  split
  · rfl
  · split <;> rfl

theorem expireRelease_lawView : s.expireRelease.lawView = s.lawView := by
  unfold State.expireRelease
  split <;> rfl

end Sys2Proof.Machine
end

section
/-! What coil protection and the contact block do to the laws of the override unit and the trip line (chapters
3, 4 and 6): every change of a coil's state hands its level over and derives the trip output anew (R60,
R114). -/

namespace Sys2Proof.Machine

variable (s : State)

/-! ### Changes of a coil's record (R60, R65, R68, R76, R77) -/

/-- A coil's record changes, its level and its drive of the trip line do not. -/
theorem KeepsLaws.setCoil {c : CoilId} {k : Coil} (hlevel : k.state.level = (s.coil c).state.level)
    (hdrives : k.drives = (s.coil c).drives) : KeepsLaws s (s.setCoil c k) := by
  refine .unseen (congrArg (fun x => { s.lawView with coils := x }) ?_)
  rw [State.setCoil, State.withCoils_coils, List.map_set, hlevel, hdrives,
    ← List.map_set (f := fun k : Coil => (k.state.level, k.drives))]
  exact congrArg (fun t : State => t.coils.map _) (s.setCoil_coil c)

theorem KeepsLaws.withNotice (n : Notice) : KeepsLaws s (s.withNotice n) := .unseen rfl

theorem KeepsLaws.reportEntry (c : CoilId) (new : CoilState) : KeepsLaws s (s.reportEntry c new) := by
  rw [State.reportEntry_eq]
  exact .withNotice s _

theorem KeepsLaws.enterState (c : CoilId) (new : CoilState) (cause : Option Cause) :
    KeepsLaws s (s.enterState c new cause) where
  override hs := (KeepsLaws.reportEntry _ c new).override
    ((KeepsLaws.deriveTripOutput _).override (handLevelFrom_overrideLaw hs))
  drive _ := (KeepsLaws.reportEntry _ c new).drive (deriveTripOutput_drives _)

theorem KeepsLaws.changeCause (c : CoilId) (cause : Cause) : KeepsLaws s (s.changeCause c cause) := by
  unfold State.changeCause
  dsimp only
  split
  · exact .refl s
  · exact (KeepsLaws.setCoil s (k := { s.coil c with cause := some cause }) rfl rfl).trans (.withNotice _ _)

theorem KeepsLaws.tripCoil (c : CoilId) (cause : Cause) : KeepsLaws s (s.tripCoil c cause) := by
  have hrecorded := KeepsLaws.setCoil s (c := c) (k := { s.coil c with
    tripHistory := appendTrip (s.coil c).tripHistory s.plantClock, autoResetTimer := 0 }) rfl rfl
  unfold State.tripCoil
  dsimp only
  split
  · exact hrecorded.trans (.enterState _ c .lockout _)
  · exact hrecorded.trans (.enterState _ c .trip _)

theorem KeepsLaws.enterStartup (c : CoilId) : KeepsLaws s (s.enterStartup c) :=
  KeepsLaws.trans (.setCoil s (by rfl) (by rfl)) (.enterState _ c .startup none)

theorem KeepsLaws.resetToGuard (c : CoilId) : KeepsLaws s (s.resetToGuard c) :=
  KeepsLaws.trans (.setCoil s (by rfl) (by rfl)) (.enterState _ c .guard _)

theorem KeepsLaws.takeOffline (c : CoilId) : KeepsLaws s (s.takeOffline c) :=
  KeepsLaws.trans (.setCoil s (by rfl) (by rfl)) (.enterState _ c .offline none)

theorem KeepsLaws.resetCoil (c : CoilId) : KeepsLaws s (s.resetCoil c) := by
  unfold State.resetCoil
  dsimp only
  split
  · exact (KeepsLaws.setCoil s (k := { s.coil c with tripHistory := [] }) rfl rfl).trans (.resetToGuard _ c)
  · exact .resetToGuard s c

theorem KeepsLaws.setAutoReset (c : CoilId) (timer : Nat) :
    KeepsLaws s (s.setCoil c { s.coil c with autoResetTimer := timer }) := .setCoil s rfl rfl

/-! ### The state machine (R61 to R74) -/

section Indications
variable (c : CoilId) (ind : Indication)

theorem KeepsLaws.actInStartup : KeepsLaws s (s.actInStartup c ind) := by
  unfold State.actInStartup
  dsimp only
  split
  · split
    · exact .enterState s c _ _
    · split <;> exact .enterState s c _ _
  · exact .refl s

theorem KeepsLaws.actInNormal : KeepsLaws s (s.actInNormal c ind) := by
  unfold State.actInNormal
  dsimp only
  split
  · exact .enterState s c _ _
  · split
    · exact .enterState s c _ _
    · exact .refl s

theorem KeepsLaws.actInWatch : KeepsLaws s (s.actInWatch c ind) := by
  unfold State.actInWatch
  dsimp only
  split
  · exact .enterState s c _ _
  · split
    · exact .enterState s c _ _
    · split
      · exact .changeCause s c _
      · exact .refl s

theorem KeepsLaws.actInGuard : KeepsLaws s (s.actInGuard c ind) := by
  unfold State.actInGuard
  dsimp only
  split
  · exact .changeCause s c _
  · split
    · exact .enterState s c _ _
    · exact .refl s

theorem KeepsLaws.actInTrip : KeepsLaws s (s.actInTrip c) := by
  unfold State.actInTrip State.autoResetStep
  split
  · exact .setAutoReset s c 0
  · split
    · exact .resetToGuard s c
    · exact .setAutoReset s c _

theorem KeepsLaws.actUnlatched {rule : State → CoilId → Indication → State}
    (h : ∀ u, KeepsLaws u (rule u c ind)) : KeepsLaws s (s.actUnlatched c ind rule) := by
  unfold State.actUnlatched
  split
  · exact .tripCoil s c _
  · exact h s

theorem KeepsLaws.takeIndication : KeepsLaws s (s.takeIndication c ind) := by
  unfold State.takeIndication
  dsimp only
  refine KeepsLaws.trans (t := s.setCoil c (advanceTimers (s.coldWeatherFor (s.coil c).cfg) (s.coil c)))
    (.setCoil s rfl rfl) ?_
  split
  · exact .refl _
  · exact .actUnlatched _ c ind fun u => .actInStartup u c ind
  · exact .actUnlatched _ c ind fun u => .actInNormal u c ind
  · exact .actUnlatched _ c ind fun u => .actInWatch u c ind
  · exact .actUnlatched _ c ind fun u => .actInGuard u c ind
  · exact .actInTrip _ c
  · exact .setAutoReset _ c 0

end Indications

theorem KeepsLaws.evaluateCoil (c : CoilId) : KeepsLaws s (s.evaluateCoil c) :=
  (KeepsLaws.setCoil s (k := { s.coil c with eval := s.evaluatedCoil c }) rfl rfl).trans
    (.takeIndication _ c _)

/-! ### Contact changes (R67, R112) -/

theorem KeepsLaws.takeContactChange (i : Fin 16) (c : CoilId) : KeepsLaws s (s.takeContactChange i c) := by
  unfold State.takeContactChange
  dsimp only
  split
  · split
    · exact .refl s
    · exact .tripCoil s c _
    · exact .tripCoil s c _
    · exact .tripCoil s c _
    · exact .tripCoil s c _
    · exact .setAutoReset s c 0
    · exact .refl s
  · exact .refl s

/-- A contact change handed on derives the trip output anew, whatever it was before. -/
theorem handContactChange_drives (i : Fin 16) :
    (s.handContactChange i).contacts.driven = (s.handContactChange i).wantsDrive := by
  rw [State.handContactChange_eq]
  exact deriveTripOutput_drives _

theorem KeepsLaws.handContactChange (i : Fin 16) : KeepsLaws s (s.handContactChange i) :=
  (KeepsLaws.foldl _ (fun u c => .takeContactChange u i c) coilIds s).trans
    ((KeepsLaws.withNotice _ _).trans (.deriveTripOutput _))

theorem foldl_handContactChange_drives {changed : List (Fin 16)} (h : changed ≠ []) :
    (changed.foldl State.handContactChange s).contacts.driven =
      (changed.foldl State.handContactChange s).wantsDrive := by
  obtain ⟨before, last, rfl⟩ := (List.eq_nil_or_concat' changed).resolve_left h
  rw [List.foldl_append, List.foldl_cons, List.foldl_nil]
  exact handContactChange_drives _ last

/-- The contact block changes: the override law does not see it. -/
theorem withContacts_overrideLaw {s : State} (b : ContactBlock) (hs : s.OverrideLaw) :
    (s.withContacts b).OverrideLaw := hs.congr rfl rfl rfl rfl

/-- A contact block that changes and is handed on. -/
theorem KeepsLaws.contactChange (b : ContactBlock) (i : Fin 16) :
    KeepsLaws s ((s.withContacts b).handContactChange i) where
  override hs := (KeepsLaws.handContactChange _ i).override (withContacts_overrideLaw b hs)
  drive _ := handContactChange_drives _ i

/-- A contact block that changes, the trip output derived anew. -/
theorem KeepsLaws.contactsDerived (b : ContactBlock) : KeepsLaws s (s.withContacts b).deriveTripOutput where
  override hs := (KeepsLaws.deriveTripOutput _).override (withContacts_overrideLaw b hs)
  drive _ := deriveTripOutput_drives _

/-! ### A tick (R109, R110, R117) -/

/-- Where no input differs between two readings of the block, the debounced states are the same. -/
theorem debounced_eq_of_unchanged {before after : List ContactInput} (hb : before.length = 16)
    (ha : after.length = 16) (h : changedInputs before after = []) :
    after.map ContactInput.debounced = before.map ContactInput.debounced := by
  refine List.ext_getElem? fun i => ?_
  rw [List.getElem?_map, List.getElem?_map]
  by_cases hi : i < 16
  · have hsame := List.filter_eq_nil_iff.mp h ⟨i, hi⟩ (List.mem_finRange _)
    rw [bne_iff_ne, not_not] at hsame
    exact hsame.symm
  · rw [List.getElem?_eq_none (by omega), List.getElem?_eq_none (by omega)]

theorem handSense_lawView (before : ContactBlock) (high : Bool) :
    (s.handSense before high).lawView = s.lawView := by
  unfold State.handSense
  split
  · exact changeSense_lawView s high
  · rfl

theorem KeepsLaws.handSettling (before : ContactBlock) : KeepsLaws s (s.handSettling before) := by
  unfold State.handSettling
  split
  · exact .refl s
  · exact .deriveTripOutput s

theorem KeepsLaws.handRelease (before : ContactBlock) : KeepsLaws s (s.handRelease before) := by
  unfold State.handRelease
  split
  · exact .unseen (expireRelease_lawView s)
  · exact .refl s

/-- The state after a tick has sampled and compared, before any change is handed on. -/
def State.tickSampled (s : State) (pins : BitVec 16) (high : Bool) : State :=
  (s.withContacts (s.contacts.sampled s.globals.contactDebounce pins high)).countModeration

section Tick
variable {s : State} (hinputs : s.contacts.inputs.length = 16) (pins : BitVec 16) (high : Bool)

theorem tickSampled_inputs_length : (s.tickSampled pins high).contacts.inputs.length =
    s.contacts.inputs.length := List.length_mapIdx ..

include hinputs in
/-- A tick with no change to hand on, and no settling, is not seen by the laws. -/
theorem tickSampled_lawView
    (hsame : changedInputs s.contacts.inputs (s.tickSampled pins high).contacts.inputs = [])
    (hsettled : (s.tickSampled pins high).contacts.settled = s.contacts.settled) :
    (s.tickSampled pins high).lawView = s.lawView := by
  have hdebounced := debounced_eq_of_unchanged hinputs
    ((tickSampled_inputs_length pins high).trans hinputs) hsame
  exact (congrArg₂ (fun x y => { s.lawView with inputs := x, settled := y }) hdebounced hsettled :)

include hinputs in
theorem KeepsLaws.tick : KeepsLaws s ((s.tickSampled pins high).handTick s.contacts high) where
  override hs := by
    have hsampled : (s.tickSampled pins high).OverrideLaw := hs.congr rfl rfl rfl rfl
    have hsensed := (KeepsLaws.unseen (handSense_lawView _ s.contacts high)).override hsampled
    exact (KeepsLaws.handRelease _ _).override ((KeepsLaws.handSettling _ _).override
      ((KeepsLaws.foldl _ KeepsLaws.handContactChange _ _).override hsensed))
  drive hs := by
    refine (KeepsLaws.handRelease _ _).drive ?_
    by_cases hchanged : changedInputs s.contacts.inputs (s.tickSampled pins high).contacts.inputs = []
    · rw [hchanged]
      have hview := handSense_lawView (s.tickSampled pins high) s.contacts high
      have hsettled := congrArg LawView.settled hview
      simp only [List.foldl_nil]
      unfold State.handSettling
      split
      · rename_i hkept
        exact (KeepsLaws.unseen (hview.trans
          (tickSampled_lawView hinputs pins high hchanged (hsettled.symm.trans hkept)))).drive hs
      · exact deriveTripOutput_drives _
    · exact (KeepsLaws.handSettling _ _).drive (foldl_handContactChange_drives _ hchanged)

end Tick

end Sys2Proof.Machine
end

section
/-! What loads, a RESTART and a power-on do to the laws of the override unit and the trip line (chapters 1, 5
and 11). -/

namespace Sys2Proof.Machine

/-! ### Rules that name another pair (R11, R85) -/

/-- A table whose entry at an index is exchanged, old and new without a property: the entries that have it
stay. -/
theorem filter_entries_set {α : Type} {p : α → Bool} {table : List (Option α)} {i : Nat} {o : Option α}
    (hold : ∀ a, table[i]? = some (some a) → p a = false) (hnew : ∀ a, o = some a → p a = false) :
    ((table.set i o).filterMap id).filter p = (table.filterMap id).filter p := by
  have hkept (xs : List (Option α)) : (xs.filterMap id).filter p = xs.filterMap (Option.filter p) := by
    rw [List.filter_filterMap]
    rfl
  have hnone {x : Option α} (h : ∀ a, x = some a → p a = false) : Option.filter p x = none := by
    cases x with
    | none => rfl
    | some a => simp [h a rfl]
  have hmapped (xs : List (Option α)) : xs.filterMap (Option.filter p) =
      (xs.map (Option.filter p)).filterMap id := by simp [List.filterMap_map]
  rw [hkept, hkept, hmapped, hmapped, List.map_set, hnone hnew]
  refine congrArg (List.filterMap id) ?_
  by_cases hi : i < (table.map (Option.filter p)).length
  · have hthere : (table.map (Option.filter p))[i] = none := (List.getElem_map ..).trans
      (hnone fun a ha => hold a (List.getElem?_eq_some_iff.mpr ⟨by simpa using hi, ha⟩))
    rw [← hthere, List.set_getElem_self]
  · exact List.set_eq_of_length_le (Nat.le_of_not_lt hi)

section Rules
variable {rules : List (Option OverrideRule)} {i station channel : Nat} {o : Option OverrideRule}

/-- Exchanging a rule of one pair leaves the active rules of every other. -/
theorem activeRules_set_rule (levels : List Nat) {r : ActuatorRecord} (h : r.hasKey station channel = false)
    (hold : ∀ q, rules[i]? = some (some q) → ruleNames q station channel = true)
    (hnew : ∀ q, o = some q → ruleNames q station channel = true) :
    activeRules (rules.set i o) levels r.station r.channel = activeRules rules levels r.station r.channel := by
  have hother {q : OverrideRule} (hq : ruleNames q station channel = true) :
      (ruleNames q r.station r.channel && ruleActive levels q) = false := by
    rw [Bool.and_eq_false_iff]
    left
    by_contra hn
    rw [Bool.not_eq_false, ruleNames_iff] at hn
    have hkey := (hasKey_iff r station channel).mpr (hn.symm.trans ((ruleNames_iff q _ _).mp hq))
    rw [h] at hkey
    cases hkey
  exact filter_entries_set (fun q hq => hother (hold q hq)) (fun q hq => hother (hnew q hq))

theorem sameKey_names {q : OverrideRule} {c : CoilId} {l : RuleLevel}
    (h : OverrideRule.sameKey q c station channel l = true) : ruleNames q station channel = true := by
  cases (sameKey_iff q c station channel l).mp h
  exact (ruleNames_iff q _ _).mpr rfl

theorem ruleIndex_names {c : CoilId} {l : RuleLevel} (h : ruleIndex rules c station channel l = some i) :
    ∀ q, rules[i]? = some (some q) → ruleNames q station channel = true := by
  obtain ⟨⟨q, hq, hkey⟩, -⟩ := findIdx_any_eq_some.mp h
  intro q' hq'
  cases hq.symm.trans hq'
  exact sameKey_names hkey

/-- LOAD-RULE takes the index of its key or a free one. -/
theorem placeIndex_names {c : CoilId} {l : RuleLevel}
    (h : placeIndex (ruleIndex rules c station channel l) rules = some i) :
    ∀ q, rules[i]? = some (some q) → ruleNames q station channel = true := by
  rcases placeIndex_eq_some h with h | ⟨-, h⟩
  · exact ruleIndex_names h
  · intro q hq
    rw [(lowestFree_eq_some.mp h).1] at hq
    cases hq

end Rules

variable {s : State}

/-- Rules of one pair change, and its records are recomputed: the others stay bound. -/
theorem KeepsLaws.ruleSet {i station channel : Nat} {o : Option OverrideRule}
    {records : List (Option ActuatorRecord)}
    (hold : ∀ q, s.rules[i]? = some (some q) → ruleNames q station channel = true)
    (hnew : ∀ q, o = some q → ruleNames q station channel = true)
    (hrecords : ∀ r, some r ∈ records → r.hasKey station channel = false → some r ∈ s.records) :
    KeepsLaws s (((s.withRules (s.rules.set i o)).withRecords records).recomputeWhere
      (fun r => r.hasKey station channel)) where
  override hs := recomputeWhere_overrideLaw hs.levels fun r hr hn =>
    (hs.constraints r (hrecords r hr hn)).trans
      (congrArg constraintOf (activeRules_set_rule s.heldLevels hn hold hnew)).symm
  drive := id

theorem KeepsLaws.serveLoadRule (s : State) (args : List Byte) : KeepsLaws s (serveLoadRule args s).state := by
  unfold Machine.serveLoadRule
  split
  · exact .refl s
  · rename_i req _
    split
    · exact .refl s
    · split
      · exact .refl s
      · rename_i hi
        refine .ruleSet (placeIndex_names hi) ?_ fun r hr hn => ?_
        · rintro q ⟨⟩
          exact (ruleNames_iff _ _ _).mpr rfl
        · rcases mem_ensureRecord hr with hr | rfl
          · exact hr
          · cases hn.symm.trans ((hasKey_iff _ _ _).mpr rfl)

theorem KeepsLaws.afterRuleRemoved {c : CoilId} {station channel i : Nat} {l : RuleLevel}
    (hi : ruleIndex s.rules c station channel l = some i) :
    KeepsLaws s ((s.withRules (s.rules.set i none)).afterRuleRemoved station channel) := by
  unfold State.afterRuleRemoved
  split
  · exact KeepsLaws.ruleSet (records := s.records) (ruleIndex_names hi) (fun _ h => by cases h)
      fun r hr _ => hr
  · refine ⟨fun hs => ⟨hs.levels, fun r hr => ?_⟩, id⟩
    obtain ⟨hr, hn⟩ := mem_removeRecord.mp hr
    exact (hs.constraints r hr).trans
      (congrArg constraintOf (activeRules_set_rule s.heldLevels hn (ruleIndex_names hi)
        (fun _ h => by cases h))).symm

theorem KeepsLaws.serveClearRule (s : State) (args : List Byte) :
    KeepsLaws s (serveClearRule args s).state := by
  unfold Machine.serveClearRule
  split
  · split
    · split
      · exact .refl s
      · split
        · exact .refl s
        · rename_i hi
          split
          · exact .refl s
          · exact .afterRuleRemoved hi
    · exact .refl s
  · exact .refl s

/-- A coil out of service drives nothing, whatever its configuration (R5, R114). -/
theorem KeepsLaws.serveLoadCoil (s : State) (args : List Byte) : KeepsLaws s (serveLoadCoil args s).state := by
  unfold Machine.serveLoadCoil
  split
  · split
    · split
      · exact .refl s
      · rename_i hs
        have hs := not_not.mp hs
        exact .setCoil s rfl (by simp [Coil.drives, hs, CoilState.latched])
    · exact .refl s
  · exact .refl s

/-! ### RESTART and the end of FALLBACK (R79, R106, R175, R189) -/

theorem KeepsLaws.takeLevelsAndRecompute (records : List (Option ActuatorRecord)) :
    KeepsLaws s ((s.withRecords records).takeLevelsAndRecompute) :=
  ⟨fun _ => takeLevelsAndRecompute_overrideLaw _, id⟩

theorem KeepsLaws.restartCoil (s : State) (c : CoilId) : KeepsLaws s (s.restartCoil c) := by
  rw [State.restartCoil_eq]
  split
  · exact .enterStartup s c
  · exact .refl s

theorem KeepsLaws.restartNow (s : State) : KeepsLaws s s.restartNow :=
  KeepsLaws.afterUnseen (t := s.restartedButCoils) ((KeepsLaws.foldl _ .restartCoil coilIds _).trans
    (.takeLevelsAndRecompute (s.coilsRestarted.records.map (Option.map ActuatorRecord.reinitialised)))) rfl

theorem KeepsLaws.leaveFallback (s : State) : KeepsLaws s s.leaveFallback := by
  unfold State.leaveFallback
  split
  · exact ⟨fun hs => (KeepsLaws.deriveTripOutput _).override (hs.congr rfl rfl rfl rfl),
      fun _ => deriveTripOutput_drives _⟩
  · exact .refl s

/-! ### Power-on (R20, R78, R105, R187, R188) -/

theorem KeepsLaws.bringUp (s : State) (c : CoilId) : KeepsLaws s (s.bringUp c) := by
  unfold State.bringUp
  split
  · exact .enterStartup s c
  · exact .refl s

/-- At power-on no coil is latched and the block is not settled: nothing is driven. -/
theorem powerOnTables_drive (s : State) (straps : BitVec 5) (image : ImageContents) :
    (s.powerOnTables straps image).contacts.driven = (s.powerOnTables straps image).wantsDrive := by
  refine Eq.symm (Bool.or_eq_false_iff.mpr ⟨List.any_eq_false.mpr fun k hk => ?_, rfl⟩)
  obtain ⟨q, -, rfl⟩ := List.mem_map.mp hk
  simp [Coil.drives, Coil.atPowerOn, CoilState.latched]

theorem KeepsLaws.powerOnValid (s : State) (straps : BitVec 5) (image : ImageContents) :
    KeepsLaws s (s.powerOnValid straps image) where
  override _ := takeLevelsAndRecompute_overrideLaw _
  drive _ := (KeepsLaws.takeLevelsAndRecompute _).drive
    ((KeepsLaws.foldl _ KeepsLaws.bringUp coilIds _).drive (powerOnTables_drive s straps image))

theorem KeepsLaws.powerOnFallback (s : State) (straps : BitVec 5) :
    KeepsLaws s (s.powerOnFallback straps) where
  override _ := ⟨rfl, fun r hr => by cases (List.mem_replicate.mp hr).2⟩
  drive _ := rfl

end Sys2Proof.Machine
end

section
/-! The laws of the override unit and the trip line over line traffic and requests, and that every step keeps
them (O57). Traffic changes neither levels nor rules, and no constraint of a record. -/

namespace Sys2Proof.Machine

variable (s : State)

/-! ### Ports and the branch transaction (chapters 7 to 9) -/

theorem KeepsLaws.updatePort (p : PortId) (f : Port → Port) : KeepsLaws s (s.updatePort p f) := by
  cases p <;> exact .unseen rfl

theorem KeepsLaws.count (p : PortId) (f : Counters → Counters) : KeepsLaws s (s.count p f) :=
  .updatePort s p _

theorem KeepsLaws.withTxn (x : TxnState) : KeepsLaws s (s.withTxn x) := .unseen rfl

theorem KeepsLaws.fillReserved (t : OutTelegram) : KeepsLaws s (s.fillReserved t) := .unseen rfl

theorem KeepsLaws.fillFreeOrDrop (t : Telegram) : KeepsLaws s (s.fillFreeOrDrop t) := by
  unfold State.fillFreeOrDrop
  split
  · exact .unseen rfl
  · exact .count s _ _

theorem KeepsLaws.ownSetFails (station channel : Nat) : KeepsLaws s (s.ownSetFails station channel) := by
  have hmissed := KeepsLaws.withRecords s
    (updateRecords_boundTo (f := (·.miss s.plantClock)) (fun _ => rfl) s.records station channel)
  unfold State.ownSetFails
  split
  · exact .refl s
  · dsimp only
    split
    · exact hmissed.trans (.withNotice _ _)
    · exact hmissed

theorem KeepsLaws.deliverResult (t : Transaction) (r : TxnResult) : KeepsLaws s (s.deliverResult t r) := by
  unfold State.deliverResult
  split
  · exact .fillReserved s _
  · unfold State.ownSetResult
    split
    · exact .refl s
    · split
      · exact .ownSetFails s _ _
      · exact .refl s
  · exact .refl s

theorem KeepsLaws.endTransaction (r : TxnResult) : KeepsLaws s (s.endTransaction r) := by
  unfold State.endTransaction
  split
  · exact (KeepsLaws.deliverResult s _ r).trans (.unseen rfl)
  · exact .refl s

theorem KeepsLaws.endIfReceiving (r : TxnResult) : KeepsLaws s (s.endIfReceiving r) := by
  unfold State.endIfReceiving
  split
  · exact .endTransaction s r
  · exact .refl s

theorem KeepsLaws.movePhase (p : TxnPhase) : KeepsLaws s (s.movePhase p) := by
  unfold State.movePhase
  split
  · exact .withTxn s _
  · exact .refl s

theorem KeepsLaws.formRequest (g : Grant) : KeepsLaws s (s.formRequest g).1 := by
  unfold State.formRequest
  split
  · exact .withRecords s (updateRecords_boundTo (f := ActuatorRecord.afterOwnSet) (fun _ => rfl) _ _ _)
  · rename_i t rest
    split
    · exact KeepsLaws.afterUnseen (.withRecords (s.withRelayQueue rest)
        (rewriteItems_boundTo t.dest s.records (settingItems t.payload))) rfl
    · exact .unseen rfl
  · exact .unseen rfl

theorem KeepsLaws.grant (g : Grant) : KeepsLaws s (s.grant g) := by
  have hformed := KeepsLaws.formRequest s g
  rw [grant_eq_afterGrant]
  generalize s.formRequest g = formed at hformed ⊢
  exact hformed.trans (.unseen rfl)

theorem KeepsLaws.branchLeft : KeepsLaws s s.branchLeft :=
  (KeepsLaws.updatePort s .branch _).trans (.movePhase _ _)

theorem KeepsLaws.lineFaults : KeepsLaws s s.lineFaults :=
  (KeepsLaws.updatePort s .branch _).trans ((KeepsLaws.count _ .branch _).trans (.endTransaction _ _))

theorem KeepsLaws.endBreak : KeepsLaws s s.endBreak :=
  (KeepsLaws.updatePort s .branch _).trans (.movePhase _ _)

theorem KeepsLaws.trackTurnaround (p : PortId) : KeepsLaws s (s.trackTurnaround p) := by
  cases p
  · exact .refl s
  · show KeepsLaws s s.countTurnaround
    unfold State.countTurnaround
    split
    · split <;> exact .withTxn s _
    · exact .refl s

/-! ### Receivers (chapter 7) -/

theorem KeepsLaws.telegramError (p : PortId) : KeepsLaws s (s.telegramError p) := by
  unfold State.telegramError
  split
  · exact .updatePort s p _
  · exact (KeepsLaws.updatePort s p _).trans (.withNotice _ _)

theorem KeepsLaws.discardInAssembly (p : PortId) : KeepsLaws s (s.discardInAssembly p) := by
  cases p
  · exact .telegramError s .trunk
  · exact (KeepsLaws.endIfReceiving s _).trans (.telegramError _ _)

theorem KeepsLaws.discardAddress (p : PortId) : KeepsLaws s (s.discardAddress p) := by
  cases p
  · exact .count s .trunk fun k => { k with address := bump k.address }
  · exact (KeepsLaws.count s .branch fun k => { k with address := bump k.address }).trans (.endIfReceiving _ _)

theorem KeepsLaws.gapExpires (p : PortId) : KeepsLaws s (s.gapExpires p) :=
  (KeepsLaws.updatePort s p _).trans ((KeepsLaws.count _ p _).trans (.discardInAssembly _ p))

theorem KeepsLaws.takeRelayCandidate (t : Telegram) : KeepsLaws s (s.takeRelayCandidate t) := by
  unfold State.takeRelayCandidate
  split
  · exact .unseen rfl
  · exact .fillFreeOrDrop s _

theorem KeepsLaws.judgeAnswer (t : Telegram) : KeepsLaws s (s.judgeAnswer t) := by
  unfold State.judgeAnswer
  split
  · exact .endTransaction s _
  · exact .refl s

theorem KeepsLaws.branchIntake (t : Telegram) : KeepsLaws s (s.branchIntake t) := by
  unfold State.branchIntake
  dsimp only
  refine KeepsLaws.trans ?_ (.judgeAnswer _ t)
  split
  · exact .unseen rfl
  · split
    · exact .withRecords s (takeAppliedItems_boundTo _ _ _ _)
    · exact .refl s

/-! ### Management requests (chapters 1, 4 and 10) -/

section Requests
variable {src code : Byte} {gated : Bool} {serve : State → Served}

theorem KeepsLaws.takeAdmin (h : ∀ u, KeepsLaws u (serve u).state) :
    KeepsLaws s (s.takeAdmin src code gated serve) := by
  unfold State.takeAdmin State.serveAdmin
  split
  · extract_lets served
    have hserved : KeepsLaws s.reservePlace served.state := by
      by_cases hbusy : (s.reservePlace.restartPending || (gated && s.reservePlace.commit.isSome)) = true
      · simp only [served, hbusy, if_true]
        exact .refl _
      · simp only [served, hbusy]
        exact h _
    refine KeepsLaws.afterUnseen (t := s.reservePlace) ?_ rfl
    split
    · exact hserved
    · exact hserved.trans (.fillReserved _ _)
  · exact .fillFreeOrDrop s _

end Requests

section Serve
variable (args : List Byte)

theorem KeepsLaws.serveLoadPoint : KeepsLaws s (serveLoadPoint args s).state := by
  unfold Machine.serveLoadPoint
  split
  · exact .refl s
  · split
    · exact .refl s
    · split
      · exact .refl s
      · split
        · exact .refl s
        · exact .unseen rfl

theorem KeepsLaws.serveClearPoint : KeepsLaws s (serveClearPoint args s).state := by
  unfold Machine.serveClearPoint
  split
  · split
    · exact .refl s
    · split
      · exact .refl s
      · split
        · exact .refl s
        · exact .unseen rfl
  · exact .refl s

theorem KeepsLaws.serveLoadRelaySet : KeepsLaws s (serveLoadRelaySet args s).state := by
  unfold Machine.serveLoadRelaySet
  dsimp only
  split <;> exact .unseen rfl

theorem KeepsLaws.serveEnableCoil : KeepsLaws s (serveEnableCoil args s).state := by
  unfold Machine.serveEnableCoil
  split
  · exact .refl s
  · split
    · exact .refl s
    · split
      · exact .refl s
      · exact KeepsLaws.trans (.setCoil s (by rfl) (by rfl)) (.enterStartup _ _)

theorem KeepsLaws.serveDisableCoil : KeepsLaws s (serveDisableCoil args s).state := by
  unfold Machine.serveDisableCoil
  split
  · exact .refl s
  · split
    · exact .refl s
    · split
      · exact .refl s
      · exact .takeOffline s _

theorem KeepsLaws.serveResetCoil : KeepsLaws s (serveResetCoil args s).state := by
  unfold Machine.serveResetCoil
  split
  · split
    · split
      · exact .refl s
      · split
        · exact .refl s
        · split
          · exact .refl s
          · exact .resetCoil s _
    · exact .refl s
  · exact .refl s

theorem KeepsLaws.serveSetPorts : KeepsLaws s (serveSetPorts args s).state := by
  unfold Machine.serveSetPorts
  split <;> exact .unseen rfl

theorem KeepsLaws.serveStatus : KeepsLaws s (serveStatus args s).state := by
  unfold Machine.serveStatus
  split
  · exact .refl s
  · rename_i clear _
    cases clear
    · exact .refl s
    · exact .unseen rfl

theorem KeepsLaws.serveReadCounters : KeepsLaws s (serveReadCounters args s).state := by
  unfold Machine.serveReadCounters
  split
  · exact .refl s
  · rename_i clear _
    cases clear
    · exact .refl s
    · exact .unseen rfl

theorem KeepsLaws.serveCommit (src : Byte) : KeepsLaws s (serveCommit src args s).state := by
  unfold Machine.serveCommit
  split <;> exact .unseen rfl

theorem KeepsLaws.serveRestart : KeepsLaws s (serveRestart args s).state := by
  unfold Machine.serveRestart
  split <;> exact .unseen rfl

theorem KeepsLaws.of_eq {s t : State} (h : t = s) : KeepsLaws s t := h ▸ .refl s

variable (src : Byte)

theorem KeepsLaws.takeUnknown (code : Byte) : KeepsLaws s (s.takeUnknown src code) := by
  unfold State.takeUnknown
  split
  · exact .unseen rfl
  · exact .fillFreeOrDrop s _

/-- A management request, by its code (R171, R179). -/
theorem KeepsLaws.takeAdminPayload (code : Byte) : KeepsLaws s (s.takeAdminPayload src code args) := by
  unfold State.takeAdminPayload
  split
  · exact .takeAdmin s fun u => .serveLoadCoil u args
  · exact .takeAdmin s fun u => .serveLoadPoint u args
  · exact .takeAdmin s fun u => .serveClearPoint u args
  · exact .takeAdmin s fun u => .serveLoadRule u args
  · exact .takeAdmin s fun u => .serveClearRule u args
  · exact .takeAdmin s fun u => .serveLoadRelaySet u args
  · exact .takeAdmin s fun u => .serveEnableCoil u args
  · exact .takeAdmin s fun u => .serveDisableCoil u args
  · exact .takeAdmin s fun u => .serveResetCoil u args
  · exact .takeAdmin s fun u => .serveSetPorts u args
  · exact .takeAdmin s fun u => .serveStatus u args
  · exact .takeAdmin s fun u => .serveReadCounters u args
  · exact .takeAdmin s fun u => .serveCommit u args src
  · exact .takeAdmin s fun u => .serveRestart u args
  · exact .takeAdmin s fun u => .of_eq (serveCoilDetail_state u args)
  · exact .takeAdmin s fun u => .of_eq (serveReadPoints_state u args)
  · exact .takeAdmin s fun u => .of_eq (serveReadActuator_state u args)
  · exact .takeUnknown s src code

end Serve

/-! ### Telegrams and characters (R132 to R135) -/

theorem KeepsLaws.trunkIntake (t : Telegram) : KeepsLaws s (s.trunkIntake t) := by
  unfold State.trunkIntake
  split
  · exact .takeRelayCandidate s t
  · split
    · exact .takeAdminPayload s _ _ _
    · exact .refl s

theorem KeepsLaws.takeGood (p : PortId) (t : Telegram) : KeepsLaws s (s.takeGood p t) := by
  refine (KeepsLaws.updatePort s p (fun x => { x with errorRun := 0 })).trans ?_
  cases p
  · exact .trunkIntake _ t
  · exact .branchIntake _ t

theorem KeepsLaws.completeTelegram (p : PortId) (bytes : List Byte) :
    KeepsLaws s (s.completeTelegram p bytes) := by
  unfold State.completeTelegram
  refine (KeepsLaws.updatePort s p Port.toHunt).trans ?_
  dsimp only
  split
  · exact (KeepsLaws.count _ p _).trans (.discardInAssembly _ p)
  · split
    · exact .discardAddress _ p
    · exact .takeGood _ p _

theorem KeepsLaws.assembleNext (p : PortId) (bytes : List Byte) (data : Byte) :
    KeepsLaws s (s.assembleNext p bytes data) := by
  unfold State.assembleNext State.countLength
  dsimp only
  split
  · exact (KeepsLaws.updatePort s p _).trans ((KeepsLaws.count _ p _).trans (.discardInAssembly _ p))
  · split
    · exact .completeTelegram s p _
    · exact .updatePort s p _

theorem KeepsLaws.countCharError (p : PortId) (isBreak : Bool) : KeepsLaws s (s.countCharError p isBreak) :=
  (KeepsLaws.count s p _).trans (.updatePort _ p _)

theorem KeepsLaws.answerBegins (p : PortId) : KeepsLaws s (s.answerBegins p) := by
  unfold State.answerBegins
  split
  · exact .refl s
  · split
    · exact .movePhase s _
    · exact .refl s

theorem KeepsLaws.takeCharIn (p : PortId) (ch : LineChar) : KeepsLaws s (s.takeCharIn p ch) := by
  unfold State.takeCharIn State.countLength
  split
  · split
    · exact .countCharError s p _
    · split
      · exact (KeepsLaws.updatePort s p _).trans (.answerBegins _ p)
      · exact .refl s
  · split
    · exact (KeepsLaws.countCharError s p _).trans (.discardInAssembly _ p)
    · split
      · exact (KeepsLaws.updatePort s p _).trans ((KeepsLaws.count _ p _).trans (.discardInAssembly _ p))
      · exact .assembleNext s p _ _

theorem KeepsLaws.takeChar (p : PortId) (ch : LineChar) : KeepsLaws s (s.takeChar p ch) := by
  rw [takeChar_heard]
  exact (KeepsLaws.updatePort s p (portHeard · ch.noise)).trans (.takeCharIn _ p ch)

/-! ### The trunk transmitter, the idle line and samples (chapter 8) -/

theorem KeepsLaws.collide (t : Transmission) : KeepsLaws s (s.collide t) := by
  have hlost (u : State) : KeepsLaws u (u.noticeLost t.owner) := by
    unfold State.noticeLost
    split
    · exact .withNotice u _
    · exact .refl u
    · exact .refl u
  exact (hlost _).afterUnseen rfl

theorem KeepsLaws.replyLeft (role : ReplyRole) : KeepsLaws s (s.replyLeft role) := by
  cases role
  · exact .refl s
  · exact .unseen rfl
  · exact .restartNow s

theorem KeepsLaws.listHeadLeft : KeepsLaws s s.listHeadLeft := by
  unfold State.listHeadLeft
  split
  · exact .refl s
  · exact (KeepsLaws.replyLeft _ _).afterUnseen rfl

theorem KeepsLaws.trunkLeft (t : Transmission) : KeepsLaws s (s.trunkLeft t) := by
  unfold State.trunkLeft
  refine (KeepsLaws.updatePort s .trunk Port.endTransmission).trans ?_
  dsimp only
  split
  · exact .listHeadLeft _
  · exact .withNotice _ _
  · exact .refl _

theorem KeepsLaws.applyStaged (p : PortId) : KeepsLaws s (s.applyStaged p) := by
  unfold State.applyStaged
  split
  · cases p
    · dsimp only
      split
      · exact .refl s
      · exact .unseen rfl
    · dsimp only
      split
      · exact .refl s
      · exact (KeepsLaws.endIfReceiving _ _).afterUnseen rfl
  · exact .refl s

theorem KeepsLaws.lineIdles (p : PortId) : KeepsLaws s (s.lineIdles p) :=
  (KeepsLaws.updatePort s p _).trans (.applyStaged _ p)

theorem KeepsLaws.readBack (p : PortId) (t : Transmission) (l : Level) : KeepsLaws s (s.readBack p t l) := by
  unfold State.readBack
  extract_lets phase next u
  split
  · cases p
    · exact .collide s t
    · exact .lineFaults s
  · refine KeepsLaws.trans (t := u) (.updatePort s p _) ?_
    split
    · cases p
      · exact .trunkLeft u t
      · exact .branchLeft u
    · split
      · exact .endBreak u
      · exact .refl u

theorem KeepsLaws.sampleChar (p : PortId) (c : CharSampler) (l : Level) :
    KeepsLaws s (s.sampleChar p c l) := by
  unfold State.sampleChar
  dsimp only
  split
  · split
    · exact .updatePort s p _
    · split
      · exact .takeChar s p _
      · exact .updatePort s p _
  · exact .updatePort s p _

theorem KeepsLaws.receiveSpace (p : PortId) : KeepsLaws s (s.receiveSpace p) := by
  unfold State.receiveSpace
  extract_lets u
  refine KeepsLaws.trans (t := u) (.updatePort s p _) ?_
  split
  · exact .sampleChar u p _ _
  · split
    · exact .refl u
    · exact .updatePort u p _

theorem KeepsLaws.countGap (p : PortId) : KeepsLaws s (s.countGap p) := by
  unfold State.countGap
  split
  · exact .refl s
  · split
    · exact .gapExpires s p
    · exact .updatePort s p _

theorem KeepsLaws.countIdle (p : PortId) : KeepsLaws s (s.countIdle p) := by
  unfold State.countIdle
  split
  · exact .updatePort s p _
  · split
    · exact .refl s
    · exact .lineIdles s p

theorem KeepsLaws.receiveMark (p : PortId) : KeepsLaws s (s.receiveMark p) := by
  unfold State.receiveMark
  extract_lets u v
  have hv : KeepsLaws u v := by
    dsimp only [v]
    split
    · exact .sampleChar u p _ _
    · exact .countGap u p
  exact KeepsLaws.trans (t := u) (.updatePort s p _) (hv.trans (.countIdle v p))

theorem KeepsLaws.tracked (p : PortId) (l : Level) :
    KeepsLaws s ((s.updatePort p (fun x => x.trackSpace l)).trackTurnaround p) :=
  (KeepsLaws.updatePort s p _).trans (.trackTurnaround _ p)

/-! ### Every step -/

theorem KeepsLaws.updatePoint (i : Nat) (f : PointEntry → PointEntry) : KeepsLaws s (s.updatePoint i f) := by
  unfold State.updatePoint
  split <;> exact .unseen rfl

theorem KeepsLaws.refreshExpiry {i : Nat} {r : ActuatorRecord} (h : entryAt s.records i = some r)
    (need : Need) :
    KeepsLaws s (s.withRecords (s.records.set i (some { r with need := need }))) := by
  obtain ⟨hlt, hv⟩ := List.getElem?_eq_some_iff.mp (entryAt_eq_some.mp h)
  refine .withRecords s ?_
  have hthere : (s.records.map (Option.map boundTo))[i]'(by simpa using hlt) =
      Option.map boundTo (some { r with need := need }) := by
    rw [List.getElem_map, hv]
    rfl
  rw [List.map_set, ← hthere, List.set_getElem_self]

theorem KeepsLaws.commitEnded (q : CommitInFlight) (success : Bool) :
    let stored := (s.withStore (Store.written q.contents)).answerCommit q .accepted
    KeepsLaws s (if success then stored.leaveFallback
      else (s.withStore Store.spoilt).answerCommit q .storeFault) := by
  intro stored
  cases success
  · exact .unseen rfl
  · exact (KeepsLaws.leaveFallback stored).afterUnseen rfl

/-- Every command keeps the laws of the override unit and the trip line. -/
theorem exec_keepsLaws (c : Instr) (s t : State) (hinputs : s.contacts.inputs.length = 16)
    (h : exec c s = .next t) : KeepsLaws s t := by
  cases c <;> cases h
  case powerOnReset straps =>
    split
    · exact .powerOnValid s straps _
    · exact .powerOnFallback s straps
  case loadCoil src args => exact .takeAdmin s fun u => .serveLoadCoil u args
  case loadPoint src args => exact .takeAdmin s fun u => .serveLoadPoint u args
  case clearPoint src args => exact .takeAdmin s fun u => .serveClearPoint u args
  case loadRule src args => exact .takeAdmin s fun u => .serveLoadRule u args
  case clearRule src args => exact .takeAdmin s fun u => .serveClearRule u args
  case loadRelaySet src args => exact .takeAdmin s fun u => .serveLoadRelaySet u args
  case enableCoil src args => exact .takeAdmin s fun u => .serveEnableCoil u args
  case disableCoil src args => exact .takeAdmin s fun u => .serveDisableCoil u args
  case resetCoil src args => exact .takeAdmin s fun u => .serveResetCoil u args
  case setPorts src args => exact .takeAdmin s fun u => .serveSetPorts u args
  case status src args => exact .takeAdmin s fun u => .serveStatus u args
  case readCounters src args => exact .takeAdmin s fun u => .serveReadCounters u args
  case commit src args => exact .takeAdmin s fun u => .serveCommit u args src
  case restart src args => exact .takeAdmin s fun u => .serveRestart u args
  case coilDetail src args => exact .takeAdmin s fun u => .of_eq (serveCoilDetail_state u args)
  case readPoints src args => exact .takeAdmin s fun u => .of_eq (serveReadPoints_state u args)
  case readActuator src args => exact .takeAdmin s fun u => .of_eq (serveReadActuator_state u args)
  case commitWriteEnd success =>
    split
    · exact .refl s
    · exact .commitEnded s _ success
  case characterReceived p ch =>
    split
    · exact .takeChar s p ch
    · exact .refl s
  case telegramComplete p last noise =>
    split
    · exact .takeChar s p _
    · exact .refl s
  case gapTimerExpiry p =>
    split
    · exact .gapExpires s p
    · exact .refl s
  case responseTimeout =>
    split
    · exact .endTransaction s _
    · exact .refl s
  case turnaroundEnd =>
    split
    · exact .withTxn s _
    · exact .refl s
  case lineIdleEvent p =>
    split
    · exact .lineIdles s p
    · exact .refl s
  case branchGrant =>
    split
    · split
      · exact .grant s _
      · exact .refl s
    · exact .refl s
  case trunkTransmissionBegin =>
    split
    · split
      · exact .updatePort s .trunk _
      · split
        · exact (KeepsLaws.withNotice s _).trans (.updatePort _ .trunk _)
        · exact .refl s
    · exact .refl s
  case collision =>
    split
    · exact .refl s
    · exact .collide s _
  case branchLineFault =>
    split
    · exact .lineFaults s
    · exact .refl s
  case trunkTransmissionComplete =>
    split
    · exact .refl s
    · exact .trunkLeft s _
  case branchTransmissionComplete =>
    split
    · exact .branchLeft s
    · exact .refl s
  case evaluation c =>
    split
    · exact .evaluateCoil s c
    · exact .refl s
  case debouncedContactChange i newState =>
    split
    · exact .contactChange s _ i
    · exact .refl s
  case contactSettling =>
    split
    · exact .refl s
    · exact .contactsDerived s _
  case debouncedSenseChange high =>
    split
    · exact .refl s
    · exact .unseen (changeSense_lawView s high)
  case releaseTimerExpiry => exact .unseen (expireRelease_lawView s)
  case pointAgeExpiry i => exact .updatePoint s i.val _
  case pollTimerExpiry i => exact .updatePoint s i.val _
  case refreshTimerExpiry r =>
    split
    · exact .refl s
    · split
      · exact .refreshExpiry s ‹_› _
      · exact .refl s
  case tick pins high => exact .tick hinputs pins high
  case plantClockIncrement => split <;> exact .unseen rfl
  case sampleAtSpace p =>
    extract_lets u
    refine KeepsLaws.trans (t := u) (.tracked s p .space) ?_
    split
    · exact .readBack u p _ _
    · exact .receiveSpace u p
  case sampleAtMark p =>
    extract_lets u
    refine KeepsLaws.trans (t := u) (.tracked s p .mark) ?_
    split
    · exact .readBack u p _ _
    · exact .receiveMark u p
  case breakEnd =>
    split
    · exact .endBreak s
    · exact .refl s

/-- Every step keeps the laws of the override unit and the trip line. -/
theorem step_keepsLaws {s t : State} (hinputs : s.contacts.inputs.length = 16) (h : step s = .next t) :
    KeepsLaws s t := by
  unfold step at h
  split at h
  · cases h
    exact .refl s
  · rename_i c rest _
    exact (exec_keepsLaws c (s.withPending rest) t hinputs h).afterUnseen rfl

/-- Every table change keeps the sizes of the tables. -/
theorem TableChange.keeps_shapeLaw (s t : State) (h : TableChange s t) (hs : s.ShapeLaw) : t.ShapeLaw := by
  cases h with
  | runs h => exact h.shapeLaw hs
  | pointLoaded _ _ _ => exact { hs with points := (List.length_set ..).trans hs.points }
  | pointCleared => exact { hs with points := (List.length_set ..).trans hs.points }
  | ruleLoaded _ _ =>
    exact { hs with
      rules := (List.length_set ..).trans hs.rules
      records := (ensureRecord_length ..).trans hs.records }
  | ruleCleared _ =>
    refine { hs with rules := (List.length_set ..).trans hs.rules, records := ?_ }
    rw [State.withRecords_records]
    split
    · exact hs.records
    · exact (List.length_map ..).trans hs.records
  | relaySetLoaded _ => exact { hs with }
  | commitTaken =>
    exact { hs with
      image := by rintro m ⟨⟩
      writing := by rintro q ⟨⟩; exact imageContents_shaped hs }
  | @commitEnded q success hq =>
    refine { hs with image := ?_, writing := by rintro q ⟨⟩ }
    cases success
    · rintro m ⟨⟩
    · rintro m ⟨⟩
      exact hs.writing q hq
  | @poweredOn straps image hp =>
    have hshape := hs.image image (passing_contents hp)
    exact
      { coils := (List.length_map ..).trans hshape.coils, points := (List.length_map ..).trans hshape.points
        rules := hshape.rules, records := rebuildRecords_length _
        heldLevels := List.length_replicate, inputs := List.length_replicate
        noticeCoils := List.length_replicate
        image := storeAtPowerOn_image hs.image, writing := by rintro q ⟨⟩ }
  | @fellBack straps =>
    exact
      { coils := List.length_replicate, points := List.length_replicate, rules := List.length_replicate
        records := List.length_replicate, heldLevels := List.length_replicate
        inputs := List.length_replicate, noticeCoils := List.length_replicate
        image := storeAtPowerOn_image hs.image, writing := by rintro q ⟨⟩ }

/-- Settles O57: every step is a chain of table changes, which keep the sizes, and every command hands each
level over with its records and derives the trip output anew wherever R114 could change it. -/
theorem overrideAndTripLineKeptByEveryStep : Obligations.OverrideAndTripLineKeptByEveryStep := by
  rintro s t ⟨hshape, hoverride, htrip⟩ hstep
  have hshape' := (step_reaches hstep).keeps TableChange.keeps_shapeLaw hshape
  have hkeeps := step_keepsLaws hshape.inputs hstep
  exact ⟨hshape', hkeeps.override hoverride, hshape'.inputs, hkeeps.drive htrip.driven⟩

end Sys2Proof.Machine
end

section
/-! The refresh timer of an actuator record (O6), the echo that it takes (O47), and the APPLIED on the branch
(O23). -/

namespace Sys2Proof.Machine

/-! ### The refresh timer (R89) -/

section Refresh
variable {s : State} {i : Fin 48} {r : ActuatorRecord} (hi : s.records[i.val]? = some (some r))
include hi

theorem exec_refreshTimerExpiry : exec (.refreshTimerExpiry i) s = .next (
    if r.refreshTimer.isSome then
      s.withRecords (s.records.set i.val (some { r with need := needAfterRefresh r.need s.plantClock }))
    else s) := by
  have hexec : exec (.refreshTimerExpiry i) s = .next (
      match entryAt s.records i.val with
      | none => s
      | some r =>
        if r.refreshTimer.isSome then
          s.withRecords (s.records.set i.val (some { r with need := needAfterRefresh r.need s.plantClock }))
        else s) := rfl
  rw [hexec, entryAt_eq_some.mpr hi]

theorem withRecords_set_same : s.withRecords (s.records.set i.val (some r)) = s := by
  obtain ⟨hlt, hv⟩ := List.getElem?_eq_some_iff.mp hi
  rw [← hv, List.set_getElem_self]
  rfl

end Refresh

theorem needAfterRefresh_of_ne {n : Need} (h : n ≠ .none) (clock : Nat) : needAfterRefresh n clock = n := by
  cases n with
  | none => exact absurd rfl h
  | _ => rfl

/-- Settles O6: by the timer, running or stopped, and the need that it finds. -/
theorem refreshExpiryRaisesRefresh : Obligations.RefreshExpiryRaisesRefresh := by
  intro s i r hi
  rw [exec_refreshTimerExpiry hi]
  refine ⟨fun period hrunning hneed => ?_, fun hneed => ?_, fun hstopped => ?_⟩
  · rw [if_pos (by simp [hrunning]), hneed]
    rfl
  · rw [needAfterRefresh_of_ne hneed, withRecords_set_same hi, ite_self]
  · rw [if_neg (by simp [hstopped])]

/-! ### An echo (R95 to R98) -/

section Echo
variable (r : ActuatorRecord) (clock : Nat) (echo : Int)

/-- The echo is not the value that was sent (R95). -/
def ActuatorRecord.mismatches : Bool := decide (r.sentValue.isSome ∧ r.sentValue ≠ some echo)

/-- The record as an echo leaves it, before its need is set (R95). -/
def ActuatorRecord.echoed : ActuatorRecord :=
  { r with ackedValue := some echo, mismatch := r.mismatches echo, missCount := 0, lost := false }

/-- The need after an echo (R96, R97). -/
def ActuatorRecord.echoNeed : Need :=
  match r.constraint with
  | some k => needUnder k (r.echoed echo) clock
  | none => needAfterEcho (r.echoed echo) echo

theorem takeEcho_eq : r.takeEcho clock echo = { r.echoed echo with
    need := r.echoNeed clock echo,
    retryNotBefore :=
      if r.mismatches echo && (r.echoNeed clock echo).retries then some (clock + 2) else none } := rfl

theorem mismatches_iff : r.mismatches echo = true ↔ ∃ v, r.sentValue = some v ∧ v ≠ echo := by
  cases h : r.sentValue <;> simp [ActuatorRecord.mismatches, h]

variable {r}

/-- Under a constraint the need is NONE or PROTECT, by the echo (R96). -/
theorem echoNeed_bound {k : Constraint} (h : r.constraint = some k) :
    r.echoNeed clock echo = boundNeed k r (some echo) clock := by
  unfold ActuatorRecord.echoNeed
  rw [h]
  exact needUnder_eq k (r.echoed echo) clock

/-- Without a constraint the echo of cmd_last ends RESTORE (R97). -/
theorem echoNeed_restore (h : r.constraint = none) {t : Nat} (hneed : r.need = .restore t) :
    r.echoNeed clock echo = if r.cmdLast = some echo then .none else .restore t := by
  simp [ActuatorRecord.echoNeed, h, needAfterEcho, ActuatorRecord.echoed, hneed]

/-- Without a constraint any other need stands (R97). -/
theorem echoNeed_other (h : r.constraint = none) (hneed : ∀ t, r.need ≠ .restore t) :
    r.echoNeed clock echo = r.need := by
  have hecho : r.echoNeed clock echo = needAfterEcho (r.echoed echo) echo := by
    unfold ActuatorRecord.echoNeed
    rw [h]
  rw [hecho, needAfterEcho, show (r.echoed echo).need = r.need from rfl]
  split
  · exact absurd ‹_› (hneed _)
  · rfl

end Echo

theorem retries_iff (n : Need) : n.retries = true ↔ (∃ t, n = .protect t) ∨ ∃ t, n = .restore t := by
  cases n <;> simp [Need.retries]

/-- Settles O47: the values of the echo, then the need by the constraint, then the retry time by both. -/
theorem echoIsTakenByItsRecord : Obligations.EchoIsTakenByItsRecord := by
  intro r clock echo after mismatch
  have hmismatch := mismatches_iff r echo
  have hafter : after = _ := takeEcho_eq r clock echo
  rw [hafter]
  refine ⟨rfl, hmismatch, rfl, rfl, rfl, rfl, rfl, rfl, rfl, rfl, fun k => echoNeed_bound clock echo,
    fun t h => echoNeed_restore clock echo h, echoNeed_other clock echo, fun hm hretries => ?_, fun hquiet => ?_⟩
  · exact if_pos (Bool.and_eq_true_iff.mpr ⟨hmismatch.mpr hm, (retries_iff _).mpr hretries⟩)
  · refine if_neg fun hboth => ?_
    obtain ⟨hm, hretries⟩ := Bool.and_eq_true_iff.mp hboth
    rcases hquiet with hnot | hnone | ⟨t, hrefresh⟩
    · exact hnot (hmismatch.mp hm)
    · rw [show r.echoNeed clock echo = .none from hnone] at hretries
      cases hretries
    · rw [show r.echoNeed clock echo = .refresh t from hrefresh] at hretries
      cases hretries

/-! ### The items of a SET or APPLIED (R128) -/

theorem settingItems_eq (payload : List Byte) : settingItems payload = valueItems payload := by
  induction payload using settingItems.induct with
  | case1 channel high low rest ih =>
    have hcount : (channel :: high :: low :: rest).length / 3 = rest.length / 3 + 1 := by
      simp only [List.length_cons]
      omega
    rw [settingItems, ih, signed16_beNat, valueItems, valueItems, hcount, List.range_succ_eq_map,
      List.map_cons, List.map_map]
    rfl
  | case2 payload hshort =>
    have hcount : payload.length / 3 = 0 := by
      match payload, hshort with
      | [], _ => rfl
      | [_], _ => simp
      | [_, _], _ => simp
      | a :: b :: c :: rest, hshort => exact (hshort a b c rest rfl).elim
    rw [settingItems, valueItems, hcount]
    · rfl
    · exact hshort

/-- A number in two bytes, as the halves of its sixteen bits (R128). -/
theorem be16s_eq_halves (z : Int) :
    be16s z = [(BitVec.ofInt 16 z).extractLsb' 8 8, (BitVec.ofInt 16 z).extractLsb' 0 8] := by
  have hnat : (BitVec.ofInt 16 z).toNat = (z % 65536).toNat := BitVec.toNat_ofInt ..
  rw [be16s, be16, ← hnat]
  simp only [BitVec.extractLsb', Nat.shiftRight_eq_div_pow, Nat.reducePow, Nat.div_one]

theorem settingBytes_eq (items : List (Byte × Int)) : settingBytes items = valueBytes items :=
  congrArg (fun f => items.flatMap f) (funext fun item => congrArg (item.1 :: ·) (be16s_eq_halves item.2))

/-! ### The APPLIED on the branch (R91, R94, R163, R164) -/

theorem takeApplied_eq (s : State) (t : Telegram) : s.takeApplied t = { s with
    records := (valueItems t.payload).foldl (fun records item => records.map (Option.map (fun r =>
      if r.station = t.src.toNat ∧ r.channel = item.1.toNat
      then r.takeEcho s.plantClock item.2 else r))) s.records } := by
  have hitem : takeAppliedItem t.src s.plantClock = fun records item => records.map (Option.map (fun r =>
      if r.station = t.src.toNat ∧ r.channel = item.1.toNat
      then r.takeEcho s.plantClock item.2 else r)) := by
    funext records item
    exact updateRecords_eq ..
  rw [State.takeApplied, settingItems_eq, hitem]
  rfl

section Judgement
variable {q : Transaction} {t : Telegram} (happlied : t.code = 4)
include happlied

theorem branchIntake_applied (s : State) : s.branchIntake t = (s.takeApplied t).judgeAnswer t := by
  have hother : ¬ t.code = kindReport := by simp [happlied]
  unfold State.branchIntake
  rw [if_neg hother, if_pos happlied]

theorem judge_applied_answers (hset : q.request.code = 3) (ha : answers q t) :
    judge q.request t = .answered t := by
  have hother : ¬ (q.request.code = kindRead ∧ t.code = kindReport) := by simp [hset]
  unfold judge
  exact (if_pos ha).trans ((if_neg hother).trans (if_pos ⟨hset, happlied⟩))

theorem judge_applied_bad (h : q.request.code ≠ 3 ∨ ¬ answers q t) : judge q.request t = .badResponse := by
  unfold judge
  by_cases ha : t.src = q.request.dest ∧ t.dest = q.request.src
  · have hset : q.request.code ≠ 3 := h.resolve_right (not_not.mpr ha)
    rw [if_pos ha]
    simp [happlied, hset]
  · rw [if_neg ha]

/-- An APPLIED to a rewritten SET goes up with ALTERED set (R91, R164). -/
theorem forwarded_applied (rewritten : Bool) :
    forwarded rewritten t = if rewritten then { t with kind := t.kind ||| 0x80#8 } else t := by
  simp [forwarded, happlied]

end Judgement

/-- Settles O23: the override unit first, whatever the transaction; then the judgement, by the transaction. -/
theorem appliedIsTakenAndForwarded : Obligations.AppliedIsTakenAndForwarded := by
  intro s bytes last noise t hcompletes hcheck ht hdest happlied taken
  have hexec : exec (.telegramComplete .branch last noise) s = .next (taken.judgeAnswer t) := by
    rw [exec_telegramComplete_good hcompletes hcheck ht hdest, branchIntake_applied happlied, takeApplied_eq]
  rw [hexec]
  refine ⟨fun q hq hset ha => ?_, fun q hq hbad => ?_, fun hnone => ?_⟩
  · have hended : taken.judgeAnswer t = afterResult (taken.deliverResult q (.answered t)) 0 := by
      rw [judgeAnswer_receiving (s := taken) hq, judge_applied_answers happlied hset ha,
        endTransaction_eq (s := taken) hq]
      rfl
    rw [hended]
    unfold State.deliverResult
    refine ⟨fun rewritten ho => ?_, fun station channel live ho => ?_⟩
    · simp only [ho, answerUp, forwarded_applied happlied]
      rfl
    · simp only [ho, State.ownSetResult]
  · rw [judgeAnswer_receiving (s := taken) hq, judge_applied_bad happlied hbad,
      endTransaction_unanswered (s := taken) (reason := .badResponse) hq rfl]
    rfl
  · rw [judgeAnswer_other (s := taken) hnone]

end Sys2Proof.Machine
end

section
/-! The grants of an own SET (O48) and of the relay queue's head (O49). -/

namespace Sys2Proof.Machine

/-! ### The oldest need (R88, R159) -/

section Oldest
variable {kind : Need → Bool} {clock : Nat} {r : ActuatorRecord}

/-- A record that no later one beats stays the oldest. -/
theorem oldestNeed_stays (rest : List ActuatorRecord)
    (h : ∀ q ∈ rest, (kind q.need && q.offers clock) = true → r.need.since ≤ q.need.since) :
    oldestNeed kind clock (some r) rest = some r := by
  induction rest with
  | nil => rfl
  | cons q rest ih =>
    have hq : ¬ (kind q.need && q.offers clock && decide (q.need.since < r.need.since)) = true := by
      rw [Bool.and_eq_true, not_and, decide_eq_true_eq, Nat.not_lt]
      exact h q (List.mem_cons_self ..)
    rw [oldestNeed, if_neg hq]
    exact ih fun q' hq' => h q' (List.mem_cons_of_mem _ hq')

/-- A record whose need is raised before those of all that stand before it becomes the oldest. -/
theorem oldestNeed_reaches (hr : (kind r.need && r.offers clock) = true) (before after : List ActuatorRecord)
    (best : Option ActuatorRecord) (hbest : ∀ b ∈ best, r.need.since < b.need.since)
    (hbefore : ∀ q ∈ before, (kind q.need && q.offers clock) = true → r.need.since < q.need.since) :
    oldestNeed kind clock best (before ++ r :: after) = oldestNeed kind clock (some r) after := by
  induction before generalizing best with
  | nil =>
    cases best with
    | none => simp [oldestNeed, hr]
    | some b => simp [oldestNeed, hr, hbest b rfl]
  | cons q before ih =>
    have hrest : ∀ q' ∈ before, (kind q'.need && q'.offers clock) = true → r.need.since < q'.need.since :=
      fun q' hq' => hbefore q' (List.mem_cons_of_mem _ hq')
    have hq := hbefore q (List.mem_cons_self ..)
    cases best with
    | none =>
      refine ih _ (fun b hb => ?_) hrest
      split at hb
      · cases hb
        exact hq ‹_›
      · cases hb
    | some b =>
      refine ih _ (fun b' hb' => ?_) hrest
      split at hb'
      · cases hb'
        rename_i hoffers
        exact hq (Bool.and_eq_true_iff.mp hoffers).1
      · cases hb'
        exact hbest b rfl

/-- The record that R159 names is the one the model takes. -/
theorem oldestNeed_of_oldestOffer {s : State} {wanted : Need → Prop} {i : Nat}
    (hkind : ∀ n, kind n = true ↔ wanted n) (hnone : ¬ wanted .none) (h : oldestOffer s wanted i r) :
    oldestNeed kind s.plantClock none (s.records.filterMap id) = some r := by
  obtain ⟨hi, hoffers, hleast⟩ := h
  obtain ⟨hlt, hv⟩ := List.getElem?_eq_some_iff.mp hi
  have hsplit : s.records.filterMap id =
      (s.records.take i).filterMap id ++ r :: (s.records.drop (i + 1)).filterMap id := by
    conv_lhs => rw [← List.take_append_drop i s.records, List.drop_eq_getElem_cons hlt, hv]
    simp
  have hindex {xs : List (Option ActuatorRecord)} {q : ActuatorRecord} (hq : q ∈ xs.filterMap id) :
      ∃ j : Nat, xs[j]? = some (some q) := List.getElem?_of_mem (by simpa using hq)
  rw [hsplit, oldestNeed_reaches ((offers_iff hkind hnone r).mpr hoffers) _ _ none (by simp), oldestNeed_stays]
  · intro q hq ho
    obtain ⟨k, hk⟩ := hindex hq
    rw [List.getElem?_drop] at hk
    rcases hleast _ q hk ((offers_iff hkind hnone q).mp ho) with hlater | ⟨hsame, -⟩
    · exact hlater.le
    · exact hsame.le
  · intro q hq ho
    obtain ⟨j, hj⟩ := hindex hq
    rw [List.getElem?_take] at hj
    split at hj
    · exact (hleast j q hj ((offers_iff hkind hnone q).mp ho)).resolve_right fun hsame =>
        Nat.not_le.mpr ‹j < i› hsame.2
    · cases hj

end Oldest

section Choice
variable {s : State} {i : Nat} {r : ActuatorRecord}

theorem oldestProtect_of_offer (h : oldestOffer s isProtectNeed i r) : s.oldestProtect = some r :=
  oldestNeed_of_oldestOffer isProtect_iff (by simp [isProtectNeed]) h

theorem oldestHousekeeping_of_offer (h : oldestOffer s isHousekeepingNeed i r) :
    s.oldestHousekeeping = some r :=
  oldestNeed_of_oldestOffer isHousekeeping_iff (by simp [isHousekeepingNeed]) h

theorem oldestProtect_none (h : ∀ q, some q ∈ s.records → ¬ offersNeed s isProtectNeed q) :
    s.oldestProtect = none :=
  oldestNeed_none isProtect_iff (by simp [isProtectNeed]) h

/-- A PROTECT need goes first, unless three grants have passed over a waiting entry (R159, R160). -/
theorem chooseGrant_protect (h : s.oldestProtect = some r) (hturn : s.relayQueue = [] ∨ s.fairness ≠ 3) :
    s.chooseGrant = some (.need r) := by
  unfold State.chooseGrant
  rw [h]
  cases hq : s.relayQueue with
  | nil => rfl
  | cons t rest => exact if_neg (hturn.resolve_left (by simp [hq]))

theorem chooseGrant_housekeeping (hprotect : s.oldestProtect = none) (hrelay : s.relayQueue = [])
    (h : s.oldestHousekeeping = some r) : s.chooseGrant = some (.need r) := by
  unfold State.chooseGrant
  rw [hrelay, hprotect, h]

/-- The relay's head goes when nothing is to be protected, or it has been passed over three times. -/
theorem chooseGrant_relay {t : Telegram} {rest : List Telegram} (hrelay : s.relayQueue = t :: rest)
    (hturn : s.fairness = 3 ∨ s.oldestProtect = none) : s.chooseGrant = some (.relay t rest) := by
  unfold State.chooseGrant
  rw [hrelay]
  rcases hturn with hturn | hturn
  · exact if_pos hturn
  · rw [hturn]
    exact ite_self _

theorem exec_branchGrant {g : Grant} (hopen : grantOpen s) (h : s.chooseGrant = some g) :
    exec .branchGrant s = .next (s.grant g) := by
  have hexec : exec .branchGrant s = .next (
      if s.branchFree then
        match s.chooseGrant with
        | some g => s.grant g
        | none => s
      else s) := rfl
  rw [hexec, if_pos (branchFree_of_grantOpen hopen), h]

end Choice

/-! ### An own SET (R93) -/

theorem grant_need (s : State) (r : ActuatorRecord) : s.grant (.need r) = afterOwnGrant s r := by
  have hpayload : settingBytes [(BitVec.ofNat 8 r.channel, r.ownValue)] =
      BitVec.ofNat 8 r.channel :: be16s r.ownValue := List.append_nil _
  rw [grant_eq_afterGrant, State.formRequest, State.formOwnSet, updateRecords_eq, hpayload]
  rfl

/-- Under a constraint an own SET carries its value, unless it restores the command (R93). -/
theorem ownValue_constrained {r : ActuatorRecord} {k : Constraint} (hc : r.constraint = some k)
    (h : ∀ t, r.need ≠ .restore t) : r.ownValue = k.out r.cmdLast := by
  cases hn : r.need with
  | restore t => exact absurd hn (h t)
  | _ => simp only [ActuatorRecord.ownValue, hn, hc]

/-- A record with a need sends a value within 0 to 1000 (R86, R93): out of its constraint, or the command
that RESTORE gives back. -/
theorem ownValue_bounds {r : ActuatorRecord} (h : r.Law) (hneed : r.need ≠ .none) :
    0 ≤ r.ownValue ∧ r.ownValue ≤ 1000 := by
  by_cases hrestore : ∃ t, r.need = .restore t
  · obtain ⟨t, ht⟩ := hrestore
    obtain ⟨v, hv⟩ := Option.isSome_iff_exists.mp (h.restore t ht).2
    simpa [ActuatorRecord.ownValue, ht, hv] using h.command v hv
  · cases hc : r.constraint with
    | none => exact absurd ((h.unbound hc).resolve_left hneed) hrestore
    | some k =>
      obtain ⟨hlo, hlo', hhi, hhi'⟩ := h.bounds k hc
      rw [ownValue_constrained hc (not_exists.mp hrestore)]
      exact Constraint.out_bounds ⟨hlo, hlo'⟩ ⟨hhi, hhi'⟩ _

/-- Settles O48: the arbiter's choice is the need, and its grant is the own SET. -/
theorem grantOfAnOwnSet : Obligations.GrantOfAnOwnSet := by
  intro s i r hopen
  refine ⟨fun hoffer hturn => ?_, fun hquiet hrelay hoffer => ?_, ownValue_bounds⟩
  · rw [exec_branchGrant hopen (chooseGrant_protect (oldestProtect_of_offer hoffer) hturn), grant_need]
  · rw [exec_branchGrant hopen (chooseGrant_housekeeping (oldestProtect_none hquiet) hrelay
      (oldestHousekeeping_of_offer hoffer)), grant_need]

/-! ### A relayed request (R90, R91) -/

theorem grant_relay_set {t : Telegram} (s : State) (rest : List Telegram) (h : t.code = 3) :
    s.grant (.relay t rest) =
      let left := rewriteItems t.dest s.records (valueItems t.payload)
      afterGrant { s with relayQueue := rest, records := left.1 } { t with payload := valueBytes left.2 }
        (.relayed (decide (left.2 ≠ valueItems t.payload))) 0 := by
  have hformed : s.formRequest (.relay t rest) =
      ((s.withRelayQueue rest).withRecords (rewriteSet s.records t).1, (rewriteSet s.records t).2.1,
        .relayed (rewriteSet s.records t).2.2) := if_pos h
  rw [grant_eq_afterGrant, hformed, rewriteSet, settingItems_eq, settingBytes_eq]
  rfl

theorem grant_relay_other {t : Telegram} (s : State) (rest : List Telegram) (h : t.code ≠ 3) :
    s.grant (.relay t rest) = afterGrant { s with relayQueue := rest } t (.relayed false) 0 := by
  have hformed : s.formRequest (.relay t rest) = (s.withRelayQueue rest, t, .relayed false) := if_neg h
  rw [grant_eq_afterGrant, hformed]
  rfl

section Items
variable {dest channel : Byte} {value : Int} {records : List (Option ActuatorRecord)}
  (rest : List (Byte × Int))

theorem rewriteItems_unheld (h : recordFor records dest.toNat channel.toNat = none) :
    rewriteItems dest records ((channel, value) :: rest) =
      ((rewriteItems dest records rest).1, (channel, value) :: (rewriteItems dest records rest).2) := by
  rw [rewriteItems, h]

theorem rewriteItems_held {r : ActuatorRecord} (h : recordFor records dest.toNat channel.toNat = some r) :
    rewriteItems dest records ((channel, value) :: rest) =
      let captured := updateRecords records dest.toNat channel.toNat (fun q => q.capture value)
      ((rewriteItems dest captured rest).1,
        (channel, r.relayedValue value) :: (rewriteItems dest captured rest).2) := by
  rw [rewriteItems, h]

end Items

/-- The value with which an item leaves for a record, in the terms of the claim (R90). -/
theorem relayedValue_eq (r : ActuatorRecord) (value : Int) : r.relayedValue value =
    match r.constraint with
    | none => value
    | some k => k.out (some (within 0 1000 value)) := by
  unfold ActuatorRecord.relayedValue
  rw [clampInt_within (by decide)]
  cases r.constraint <;> rfl

theorem recordFor_eq_none {records : List (Option ActuatorRecord)} {station channel : Nat} :
    recordFor records station channel = none ↔
      ∀ r, some r ∈ records → ¬ (r.station = station ∧ r.channel = channel) := by
  rw [recordFor, List.find?_eq_none]
  simp [ActuatorRecord.hasKey]

theorem recordFor_eq_some {records : List (Option ActuatorRecord)} {station channel : Nat}
    {r : ActuatorRecord} (h : recordFor records station channel = some r) :
    some r ∈ records ∧ r.station = station ∧ r.channel = channel := by
  refine ⟨by simpa using List.mem_of_find?_eq_some h, ?_⟩
  simpa [ActuatorRecord.hasKey] using List.find?_some h

/-- Settles O49: the arbiter's choice is the queue's head; a SET is rewritten item by item. -/
theorem grantOfARelayedRequest : Obligations.GrantOfARelayedRequest := by
  refine ⟨fun s t rest hopen hrelay hturn => ?_, fun _ _ => rfl, fun dest records item rest => ?_,
    fun dest channel value records => ⟨fun hfree => ?_, fun r hheld => ?_⟩,
    fun records station channel => ⟨recordFor_eq_none, fun r => recordFor_eq_some⟩⟩
  · rw [exec_branchGrant hopen (chooseGrant_relay hrelay (hturn.imp_right oldestProtect_none))]
    exact ⟨fun h => congrArg _ (grant_relay_other s rest h), fun h => congrArg _ (grant_relay_set s rest h)⟩
  · obtain ⟨channel, value⟩ := item
    cases h : recordFor records dest.toNat channel.toNat with
    | none =>
      rw [rewriteItems_unheld [] h, rewriteItems_unheld rest h]
      rfl
    | some r =>
      rw [rewriteItems_held [] h, rewriteItems_held rest h]
      rfl
  · exact rewriteItems_unheld [] hfree
  · rw [rewriteItems_held [] hheld, updateRecords_eq, relayedValue_eq]
    simp only [ActuatorRecord.capture, relayedValue_eq, clampInt_within (show (0 : Int) ≤ 1000 by decide)]
    rfl

end Sys2Proof.Machine
end

section
/-! The settling, a change of the sense and the expiry of the release timer (section 6.4: O52). -/

namespace Sys2Proof.Machine

/-! ### The settling (R110, R114) -/

/-- The block settled or not as told, all else as it stands (R110). -/
def State.withSettled (s : State) (x : Bool) : State := s.withContacts { s.contacts with settled := x }

theorem exec_contactSettling {s : State} (h : s.contacts.settled = false) :
    exec .contactSettling s = .next (s.withSettled true).deriveTripOutput :=
  congrArg Host.Outcome.next (if_neg (by simp [h]))

/-- A coil drives the trip line, in the terms of the claim (R114). -/
theorem Coil.drives_eq (k : Coil) :
    k.drives = (k.cfg.drivesTripLine && (k.state == .trip || k.state == .lockout)) := by
  rw [Coil.drives, Bool.eq_iff_iff]
  simp [latched_iff]

theorem State.withSettled_wantsDrive (s : State) : (s.withSettled true).wantsDrive =
    (s.coils.any (fun k => k.cfg.drivesTripLine && (k.state == .trip || k.state == .lockout)) ||
      (s.fallback && s.contacts.inputs.any (fun x => x.debounced == .opened))) := by
  rw [← funext Coil.drives_eq]
  rfl

/-! ### A change of the sense (R115, R116, R118) -/

theorem exec_debouncedSenseChange {s : State} {high : Bool} (h : s.contacts.senseHigh ≠ high) :
    exec (.debouncedSenseChange high) s = .next (s.changeSense high) := congrArg Host.Outcome.next (if_neg h)

theorem changeSense_driven {s : State} (high : Bool) (h : s.contacts.driven = true) :
    s.changeSense high = s.withContacts { s.contacts with senseHigh := high, senseRun := 0 } := if_pos h

/-- Every change of PLANT-TRIP by the sense sets the plant-trip event (R119). -/
theorem changeSense_undriven {s : State} (high : Bool) (h : s.contacts.driven = false) :
    let now := senseTaken s.contacts s.globals.plantTripRelease high
    s.changeSense high = { s with
      contacts := now,
      notice := { s.notice with
        plantTripEvent := plantTripEventAfter s.contacts now s.notice.plantTripEvent } } := by
  simp only [State.changeSense, h, Bool.false_eq_true, if_false]
  cases hrec : s.contacts.recognition <;> cases high <;>
    simp [senseTaken, plantTripEventAfter, h, hrec, State.startReleasing, State.raisePlantTripEvent,
      State.withContacts, State.withNotice]

/-! ### The expiry of the release timer (R117) -/

theorem exec_releaseTimerExpiry (s : State) : exec .releaseTimerExpiry s = .next s.expireRelease := rfl

theorem expireRelease_running {s : State} {ticks : Nat} (hrec : s.contacts.recognition = .releasing)
    (hdriven : s.contacts.driven = false) (htimer : s.contacts.releaseTimer = some ticks) :
    s.expireRelease =
      (s.withContacts { s.contacts with recognition := .clear, releaseTimer := none }).raisePlantTripEvent :=
  if_pos ⟨hrec, hdriven, by simp [htimer]⟩

theorem expireRelease_driven {s : State} (h : s.contacts.driven = true) : s.expireRelease = s :=
  if_neg (by simp [h])

/-- Settles O52, one event after another. -/
theorem tripLineEvents : Obligations.TripLineEvents := by
  refine fun s => ⟨fun hsettled => ?_, fun high hnew hdriven => ?_, fun high hnew hdriven => ?_,
    fun ticks hrec hdriven htimer => ?_, fun hdriven => ?_⟩
  · rw [exec_contactSettling hsettled, State.deriveTripOutput_eq, State.withSettled_wantsDrive]
    rfl
  · rw [exec_debouncedSenseChange hnew, changeSense_undriven high hdriven]
  · rw [exec_debouncedSenseChange hnew, changeSense_driven high hdriven]
    rfl
  · rw [exec_releaseTimerExpiry, expireRelease_running hrec hdriven htimer]
    rfl
  · rw [exec_releaseTimerExpiry, expireRelease_driven hdriven]

end Sys2Proof.Machine
end

section
/-! What a tick compares (R109, R115), what the events that it hands on leave of its sampling, and why a
contact change does not start the release timer of a part that was not driving (R114, R117). -/

namespace Sys2Proof.Machine

/-! ### The comparisons of a tick (R109, R115) -/

theorem compareSense_completes (d : Nat) (b : ContactBlock) (high : Bool) :
    (compareSense d b high).2 = true ↔ high ≠ b.senseHigh ∧ d ≤ b.senseRun + 1 := by
  unfold compareSense
  split
  · simp_all
  · split <;> simp_all

theorem compareSense_run (d : Nat) (b : ContactBlock) (high : Bool) : (compareSense d b high).1 =
    if high = b.senseHigh then 0 else if b.senseRun + 1 < d then b.senseRun + 1 else 0 := by
  unfold compareSense
  split
  · rfl
  · split <;> rfl

theorem compareContact_completes {d : Nat} {x : ContactInput} {sample : ContactState}
    (hnew : x.debounced ≠ sample) (hrun : d ≤ x.run + 1) :
    compareContact d x sample = { debounced := sample, run := 0 } := by
  rw [compareContact, if_neg (Ne.symm hnew), if_neg (by omega)]

theorem compareContact_keeps {d : Nat} {x : ContactInput} {sample : ContactState}
    (h : sample = x.debounced ∨ x.run + 1 < d) : (compareContact d x sample).debounced = x.debounced := by
  unfold compareContact
  split
  · rfl
  · rename_i hne
    rw [if_pos (h.resolve_left hne)]

theorem compareContacts_getElem? (d : Nat) (pins : BitVec 16) (inputs : List ContactInput) (j : Nat) :
    (compareContacts d pins inputs)[j]? =
      (inputs[j]?).map (fun x => compareContact d x (pinSample pins j)) := List.getElem?_mapIdx

theorem mem_changedInputs {before after : List ContactInput} {i : Fin 16} : i ∈ changedInputs before after ↔
    (before[i.val]?).map ContactInput.debounced ≠ (after[i.val]?).map ContactInput.debounced := by
  rw [changedInputs, List.mem_filter, bne_iff_ne]
  exact and_iff_right (List.mem_finRange i)

theorem changedInputs_eq_nil_iff {before after : List ContactInput} (hb : before.length = 16)
    (ha : after.length = 16) : changedInputs before after = [] ↔
      after.map ContactInput.debounced = before.map ContactInput.debounced := by
  refine ⟨debounced_eq_of_unchanged hb ha, fun h => List.eq_nil_iff_forall_not_mem.mpr fun i hi => ?_⟩
  refine mem_changedInputs.mp hi ?_
  rw [← List.getElem?_map, ← List.getElem?_map, h]

/-- Where one input alone has changed, it is the list of the changed inputs. -/
theorem changedInputs_eq_singleton {before after : List ContactInput} {i : Fin 16}
    (h : ∀ j, j ∈ changedInputs before after ↔ j = i) : changedInputs before after = [i] := by
  have hnodup : (changedInputs before after).Nodup := (List.nodup_finRange 16).filter _
  exact List.perm_singleton.mp ((List.perm_ext_iff_of_nodup hnodup (List.nodup_singleton i)).mpr
    fun j => (h j).trans List.mem_singleton.symm)

/-- The comparison of an input that completes its debounce, taken apart from those of the others. -/
theorem compareContacts_set_set {d : Nat} {pins : BitVec 16} {inputs : List ContactInput} {i : Nat}
    {x : ContactInput} (hx : inputs[i]? = some x) (hnew : x.debounced ≠ pinSample pins i)
    (hrun : d ≤ x.run + 1) :
    ((compareContacts d pins inputs).set i x).set i { debounced := pinSample pins i, run := 0 } =
      compareContacts d pins inputs := by
  have hcompleted := compareContacts_getElem? d pins inputs i
  rw [hx, Option.map_some, compareContact_completes hnew hrun] at hcompleted
  obtain ⟨hi, hget⟩ := List.getElem?_eq_some_iff.mp hcompleted
  rw [List.set_set, ← hget, List.set_getElem_self]

/-- The one input that completes its debounce at a tick is the one that changes (R109). -/
theorem changedInputs_of_completed {d : Nat} {pins : BitVec 16} {inputs : List ContactInput} {i : Fin 16}
    {x : ContactInput} (hx : inputs[i.val]? = some x) (hnew : x.debounced ≠ pinSample pins i.val)
    (hrun : d ≤ x.run + 1)
    (hothers : ∀ j y, j ≠ i.val → inputs[j]? = some y → pinSample pins j = y.debounced ∨ y.run + 1 < d) :
    changedInputs inputs (compareContacts d pins inputs) = [i] := by
  refine changedInputs_eq_singleton fun j => ?_
  rw [mem_changedInputs, compareContacts_getElem?]
  refine ⟨fun hj => ?_, ?_⟩
  · by_contra hne
    refine hj ?_
    cases hy : inputs[j.val]? with
    | none => rfl
    | some y =>
      exact congrArg some (compareContact_keeps (hothers j y (fun h => hne (Fin.ext h)) hy)).symm
  · rintro rfl
    rw [hx, Option.map_some, Option.map_some, compareContact_completes hnew hrun]
    exact fun h => hnew (Option.some.inj h)

/-! ### What the hand-on of a tick leaves -/

/-- What only the sampling of a tick changes: the contact inputs, whether the block is settled, and the
moderation time (R109, R110, R180). -/
def State.sampling (s : State) : List ContactInput × Bool × Nat :=
  (s.contacts.inputs, s.contacts.settled, s.notice.moderationTicks)

section Sampling
variable (s : State)

theorem foldl_sampling {α : Type} {f : State → α → State} (h : ∀ s a, (f s a).sampling = s.sampling)
    (xs : List α) (s : State) : (xs.foldl f s).sampling = s.sampling := by
  induction xs generalizing s with
  | nil => rfl
  | cons a xs ih => exact (ih _).trans (h s a)

theorem driveAfter_sampling {s t : State} {want : Bool}
    (hcontacts : t.contacts = s.contacts.driveAfter s.globals.plantTripRelease want)
    (hnotice : t.notice.moderationTicks = s.notice.moderationTicks) : t.sampling = s.sampling := by
  obtain ⟨hinputs, hsettled, -⟩ :=
    ContactBlock.driveAfter_inputs s.contacts s.globals.plantTripRelease want
  rw [State.sampling, hcontacts, hinputs, hsettled, hnotice]
  rfl

theorem deriveTripOutput_sampling : s.deriveTripOutput.sampling = s.sampling := by
  rw [State.deriveTripOutput_eq]
  exact driveAfter_sampling rfl rfl

theorem changeSense_sampling (high : Bool) : (s.changeSense high).sampling = s.sampling := by
  unfold State.changeSense
  dsimp only
  split
  · rfl
  · split <;> rfl

theorem expireRelease_sampling : s.expireRelease.sampling = s.sampling := by
  unfold State.expireRelease
  split <;> rfl

/-- Whatever a coil reads of its contact, it trips, restarts its auto-reset timer or stays (R67). -/
theorem takeContactChange_outcome (i : Fin 16) (c : CoilId) :
    Tripped s (s.takeContactChange i c) c (s.coil c) .contact ∨
    s.takeContactChange i c = s.setCoil c { s.coil c with autoResetTimer := 0 } ∨
    s.takeContactChange i c = s := by
  have htripped (h : (s.coil c).state ≠ .offline) :
      Tripped s (s.tripCoil c .contact) c (s.coil c) .contact := by
    have htrip := s.tripCoil_tripped c (s.coil c) .contact (s.coil_lt_of_state h)
    rwa [State.setCoil_coil] at htrip
  unfold State.takeContactChange
  dsimp only
  split
  · split
    case h_1 => exact .inr (.inr rfl)
    case h_6 => exact .inr (.inl rfl)
    case h_7 => exact .inr (.inr rfl)
    all_goals
      rename_i hstate
      exact .inl (htripped (by rw [hstate]; nofun))
  · exact .inr (.inr rfl)

theorem takeContactChange_sampling (i : Fin 16) (c : CoilId) :
    (s.takeContactChange i c).sampling = s.sampling := by
  rcases takeContactChange_outcome s i c with h | h | h
  · exact driveAfter_sampling h.contacts (by rw [h.notice])
  · rw [h]
    rfl
  · rw [h]

theorem coilsTakeChange_sampling (i : Fin 16) : (s.coilsTakeChange i).sampling = s.sampling :=
  foldl_sampling (fun s c => takeContactChange_sampling s i c) coilIds s

theorem raiseContactChange_sampling : s.raiseContactChange.sampling = s.sampling := rfl

theorem handContactChange_sampling (i : Fin 16) : (s.handContactChange i).sampling = s.sampling := by
  rw [State.handContactChange_eq, deriveTripOutput_sampling, raiseContactChange_sampling,
    coilsTakeChange_sampling]

theorem handSense_sampling (before : ContactBlock) (high : Bool) :
    (s.handSense before high).sampling = s.sampling := by
  unfold State.handSense
  split
  · exact changeSense_sampling s high
  · rfl

theorem handSettling_sampling (before : ContactBlock) : (s.handSettling before).sampling = s.sampling := by
  unfold State.handSettling
  split
  · rfl
  · exact deriveTripOutput_sampling s

theorem handRelease_sampling (before : ContactBlock) : (s.handRelease before).sampling = s.sampling := by
  unfold State.handRelease
  split
  · exact expireRelease_sampling s
  · rfl

end Sampling

theorem settled_of_sampling {s t : State} (h : t.sampling = s.sampling) :
    t.contacts.settled = s.contacts.settled := congrArg (fun x => x.2.1) h

/-! ### A drive that is not released (R114, R118) -/

/-- The release timer is stopped, and deriving the trip output would not end a drive. -/
structure State.HoldsDrive (s : State) : Prop where
  stopped : s.contacts.releaseTimer = none
  held : s.contacts.driven = true → s.wantsDrive = true

/-- Setting an entry keeps that some entry is so, where the new entry is so if the old one was. -/
theorem any_set_of_imp {α : Type} {f : α → Bool} {l : List α} {i : Nat} {b : α}
    (hf : ∀ a, l[i]? = some a → f a = true → f b = true) (h : l.any f = true) :
    (l.set i b).any f = true := by
  obtain ⟨a, ha, hfa⟩ := List.any_eq_true.mp h
  obtain ⟨j, hj, rfl⟩ := List.mem_iff_getElem.mp ha
  rw [List.any_eq_true]
  by_cases hij : i = j
  · subst hij
    exact ⟨b, List.mem_set hj b, hf _ (List.getElem?_eq_getElem hj) hfa⟩
  · exact ⟨l[j], List.mem_of_getElem? ((List.getElem?_set_ne hij).trans (List.getElem?_eq_getElem hj)), hfa⟩

/-- A coil's record changes and drives the trip line if it did before: a wanted drive stays wanted. -/
theorem wantsDrive_of_coil {s t : State} {c : CoilId} {k : Coil} (hcoils : t.coils = s.coils.set c.val k)
    (hdrives : (s.coil c).drives = true → k.drives = true) (hfallback : t.fallback = s.fallback)
    (hsampling : t.sampling = s.sampling) (h : s.wantsDrive = true) : t.wantsDrive = true := by
  have hinputs : t.contacts.inputs = s.contacts.inputs := congrArg Prod.fst hsampling
  have hcontacts : t.contacts.anyReadsOpen = s.contacts.anyReadsOpen := by
    rw [ContactBlock.anyReadsOpen, hinputs, settled_of_sampling hsampling]
    rfl
  rw [State.wantsDrive, Bool.or_eq_true] at h
  rw [State.wantsDrive, hfallback, hcontacts, Bool.or_eq_true, hcoils]
  refine h.imp_left (any_set_of_imp fun a ha hfa => hdrives ?_)
  rwa [State.coil, List.getD_eq_getElem?_getD, ha]

theorem ContactBlock.driveAfter_releaseTimer {b : ContactBlock} (period : Nat) {want : Bool}
    (h : b.driven = true → want = true) : (b.driveAfter period want).releaseTimer = b.releaseTimer := by
  unfold ContactBlock.driveAfter
  split
  · rfl
  · rename_i hchange
    have hwant : want = true := by
      cases hd : b.driven <;> simp_all
    rw [if_pos hwant]

section HoldsDrive
variable {s : State} (hs : s.HoldsDrive)
include hs

theorem State.HoldsDrive.deriveTripOutput : s.deriveTripOutput.HoldsDrive where
  stopped := by
    rw [State.deriveTripOutput_eq]
    exact (ContactBlock.driveAfter_releaseTimer _ hs.held).trans hs.stopped
  held := (deriveTripOutput_drives s).symm.trans

theorem State.HoldsDrive.tripped {t : State} {c : CoilId} {cause : Cause}
    (h : Tripped s t c (s.coil c) cause) : t.HoldsDrive := by
  have hsampling : t.sampling = s.sampling := driveAfter_sampling h.contacts (by rw [h.notice])
  have hdrives (hk : (s.coil c).drives = true) :
      (((s.coil c).tripRecorded s.plantClock).entering ((s.coil c).tripState s.plantClock) (some cause)
        s.plantClock).drives = true := by
    rw [Coil.drives, Bool.and_eq_true] at hk ⊢
    exact ⟨hk.1, (tripState_level (s.coil c) s.plantClock).2⟩
  have hwants : s.wantsDrive = true → t.wantsDrive = true :=
    wantsDrive_of_coil h.coils hdrives (by rw [h.frame.eq]) hsampling
  refine ⟨?_, fun hdriven => ?_⟩
  · rw [h.contacts, ContactBlock.driveAfter_releaseTimer _ (hwants ∘ hs.held), hs.stopped]
  · rwa [h.contacts, ContactBlock.driveAfter_driven] at hdriven

theorem State.HoldsDrive.takeContactChange (i : Fin 16) (c : CoilId) :
    (s.takeContactChange i c).HoldsDrive := by
  rcases takeContactChange_outcome s i c with h | h | h
  · exact hs.tripped h
  · rw [h]
    exact ⟨hs.stopped, fun hd => wantsDrive_of_coil rfl id rfl rfl (hs.held hd)⟩
  · rwa [h]

theorem State.HoldsDrive.coilsTakeChange (i : Fin 16) : (s.coilsTakeChange i).HoldsDrive := by
  unfold State.coilsTakeChange
  induction coilIds generalizing s with
  | nil => exact hs
  | cons c cs ih => exact ih (hs.takeContactChange i c)

/-- A contact change that finds the drive not about to end does not start the release timer (R117, R118). -/
theorem State.HoldsDrive.handContactChange (i : Fin 16) : (s.handContactChange i).HoldsDrive := by
  rw [State.handContactChange_eq]
  have htaken := hs.coilsTakeChange i
  generalize s.coilsTakeChange i = u at htaken ⊢
  have hraised : u.raiseContactChange.HoldsDrive := ⟨htaken.stopped, htaken.held⟩
  exact hraised.deriveTripOutput

end HoldsDrive

end Sys2Proof.Machine
end

section
/-! A tick: it samples and compares, and then hands on what that has completed (sections 6.1 and 6.4: O53). -/

namespace Sys2Proof.Machine

/-! ### A tick in its two halves (R109, R110) -/

theorem exec_tick (s : State) (pins : BitVec 16) (high : Bool) :
    exec (.tick pins high) s = .next ((s.tickSampled pins high).handTick s.contacts high) := rfl

/-- The state after a tick has sampled and compared, before the block settles. -/
def State.tickCompared (s : State) (pins : BitVec 16) (high : Bool) : State :=
  { s with
    contacts := { s.contacts with
      inputs := compareContacts s.globals.contactDebounce pins s.contacts.inputs
      ticks := if s.contacts.settled then s.contacts.ticks else s.contacts.ticks + 1
      senseRun :=
        if high = s.contacts.senseHigh then 0
        else if s.contacts.senseRun + 1 < s.globals.contactDebounce then s.contacts.senseRun + 1 else 0
      releaseTimer := if s.contacts.driven then s.contacts.releaseTimer
        else s.contacts.releaseTimer.map (· - 1) }
    notice := { s.notice with moderationTicks := min 480 (s.notice.moderationTicks + 1) } }

section Tick
variable (s : State) (pins : BitVec 16) (high : Bool)

theorem tickSampled_eq : s.tickSampled pins high =
    (s.tickCompared pins high).withSettled
      (s.contacts.settled || s.globals.contactDebounce ≤ s.contacts.ticks + 1) := by
  rw [State.tickSampled, ContactBlock.sampled, compareSense_run]
  rfl

/-- The block settles at this tick (R110). -/
def State.settlesAtTick : Prop :=
  s.contacts.settled = false ∧ s.globals.contactDebounce ≤ s.contacts.ticks + 1

variable {s}

theorem not_settlesAtTick (h : s.contacts.settled = true) : ¬ s.settlesAtTick :=
  fun hsettles => Bool.noConfusion (hsettles.1.symm.trans h)

theorem tickSampled_of_settles (h : s.settlesAtTick) :
    s.tickSampled pins high = (s.tickCompared pins high).withSettled true := by
  rw [tickSampled_eq, decide_eq_true h.2, Bool.or_true]

theorem tickSampled_of_not_settles (h : ¬ s.settlesAtTick) :
    s.tickSampled pins high = s.tickCompared pins high := by
  have hsettled : (s.contacts.settled || decide (s.globals.contactDebounce ≤ s.contacts.ticks + 1)) =
      s.contacts.settled := by
    cases hs : s.contacts.settled with
    | true => rfl
    | false => exact decide_eq_false fun hticks => h ⟨hs, hticks⟩
  rw [tickSampled_eq, hsettled]
  rfl

theorem tickSampled_settled : (s.tickSampled pins high).contacts.settled = true ↔
    s.contacts.settled = true ∨ s.globals.contactDebounce ≤ s.contacts.ticks + 1 := by
  rw [← decide_eq_true_iff (p := s.globals.contactDebounce ≤ _), ← Bool.or_eq_true]
  rfl

variable (s)

theorem handTick_sampling (before : ContactBlock) : (s.handTick before high).sampling = s.sampling :=
  (handRelease_sampling _ before).trans ((handSettling_sampling _ before).trans
    ((foldl_sampling handContactChange_sampling _ _).trans (handSense_sampling s before high)))

theorem senseTaken_settled (b : ContactBlock) (period : Nat) (x : Bool) :
    senseTaken { b with settled := x } period high = { senseTaken b period high with settled := x } := by
  unfold senseTaken
  dsimp only
  split_ifs <;> rfl

/-- The sense and the settling are apart: a sense change is taken alike by a settled block. -/
theorem changeSense_withSettled (x : Bool) :
    (s.withSettled x).changeSense high = (s.changeSense high).withSettled x := by
  cases hdriven : s.contacts.driven with
  | true =>
    rw [changeSense_driven high hdriven, changeSense_driven (s := s.withSettled x) high hdriven]
    rfl
  | false =>
    have htaken : senseTaken (s.withSettled x).contacts (s.withSettled x).globals.plantTripRelease high =
        { senseTaken s.contacts s.globals.plantTripRelease high with settled := x } :=
      senseTaken_settled high s.contacts s.globals.plantTripRelease x
    rw [changeSense_undriven high hdriven, changeSense_undriven (s := s.withSettled x) high hdriven, htaken]
    rfl

theorem handSense_withSettled (before : ContactBlock) (x : Bool) :
    (s.withSettled x).handSense before high = (s.handSense before high).withSettled x := by
  rw [State.handSense, State.handSense, changeSense_withSettled]
  exact (apply_ite (State.withSettled · x) _ _ _).symm

variable {s}

/-- A tick that changes an input or settles the block leaves the trip output as R114 derives it. -/
theorem handTick_drives (h : s.settlesAtTick ∨
    changedInputs s.contacts.inputs (s.tickSampled pins high).contacts.inputs ≠ []) :
    let t := (s.tickSampled pins high).handTick s.contacts high
    t.contacts.driven = t.wantsDrive := by
  refine (KeepsLaws.handRelease _ _).drive ?_
  rcases h with h | h
  · have hsettled (changed : List (Fin 16)) : (changed.foldl State.handContactChange
        ((s.tickSampled pins high).handSense s.contacts high)).contacts.settled ≠ s.contacts.settled := by
      rw [settled_of_sampling ((foldl_sampling handContactChange_sampling _ _).trans
        (handSense_sampling _ _ _)), (tickSampled_settled pins high).mpr (.inr h.2), h.1]
      nofun
    rw [State.handSettling, if_neg (hsettled _)]
    exact deriveTripOutput_drives _
  · exact (KeepsLaws.handSettling _ _).drive (foldl_handContactChange_drives _ h)

/-- Where no input changes, a tick hands on the sense, the settling and the release timer, in this order. -/
theorem handTick_of_unchanged
    (h : changedInputs s.contacts.inputs (s.tickSampled pins high).contacts.inputs = []) :
    let u := (s.tickCompared pins high).handSense s.contacts high
    (s.settlesAtTick → (s.tickSampled pins high).handTick s.contacts high =
      (u.withSettled true).deriveTripOutput.handRelease s.contacts) ∧
    (¬ s.settlesAtTick → (s.tickSampled pins high).handTick s.contacts high =
      u.handRelease s.contacts) := by
  intro u
  rw [State.handTick, h, List.foldl_nil]
  refine ⟨fun hsettles => ?_, fun hsettles => ?_⟩
  · rw [tickSampled_of_settles pins high hsettles, handSense_withSettled, State.handSettling, if_neg]
    exact fun hsame => Bool.noConfusion (hsame.trans hsettles.1)
  · rw [tickSampled_of_not_settles pins high hsettles, State.handSettling, if_pos]
    exact (settled_of_sampling (handSense_sampling (s.tickCompared pins high) _ _)).trans rfl

/-! ### The four claims about a tick -/

/-- The debounce of the sense completes at this tick (R115). -/
def State.senseCompletes (s : State) (high : Bool) : Prop :=
  high ≠ s.contacts.senseHigh ∧ s.globals.contactDebounce ≤ s.contacts.senseRun + 1

theorem tickCompared_handSense (h : s.senseCompletes high) :
    exec (.debouncedSenseChange high) (s.tickCompared pins high) =
      .next ((s.tickCompared pins high).handSense s.contacts high) := by
  have hcompletes :
      (compareSense (s.tickCompared pins high).globals.contactDebounce s.contacts high).2 = true :=
    (compareSense_completes _ _ _).mpr h
  rw [State.handSense, if_pos hcompletes]
  exact exec_debouncedSenseChange h.1.symm

theorem tickCompared_handSense_quiet (h : ¬ s.senseCompletes high) :
    (s.tickCompared pins high).handSense s.contacts high = s.tickCompared pins high :=
  if_neg (mt (compareSense_completes _ _ _).mp h)

/-- What a tick leaves of what its sampling has found (R109, R110, R180). -/
theorem handTick_sampled :
    let t := (s.tickSampled pins high).handTick s.contacts high
    t.contacts.inputs = compareContacts s.globals.contactDebounce pins s.contacts.inputs ∧
    (t.contacts.settled = true ↔
      s.contacts.settled = true ∨ s.globals.contactDebounce ≤ s.contacts.ticks + 1) ∧
    t.notice.moderationTicks = min 480 (s.notice.moderationTicks + 1) := by
  intro t
  have hkept : t.sampling = (s.tickSampled pins high).sampling := handTick_sampling _ high s.contacts
  refine ⟨(congrArg Prod.fst hkept).trans rfl, ?_, (congrArg (fun x => x.2.2) hkept).trans rfl⟩
  rw [settled_of_sampling hkept]
  exact tickSampled_settled pins high

/-- Where no input changes, the sense change and the settling come before the release timer. -/
theorem exec_tick_of_unchanged
    (h : changedInputs s.contacts.inputs (s.tickSampled pins high).contacts.inputs = []) :
    ∃ v, (s.settlesAtTick →
        exec .contactSettling ((s.tickCompared pins high).handSense s.contacts high) = .next v) ∧
      (¬ s.settlesAtTick → v = (s.tickCompared pins high).handSense s.contacts high) ∧
      exec (.tick pins high) s = .next (v.handRelease s.contacts) := by
  obtain ⟨hsettling, hkept⟩ := handTick_of_unchanged pins high h
  rw [exec_tick]
  by_cases hsettles : s.settlesAtTick
  · have hunsettled : ((s.tickCompared pins high).handSense s.contacts high).contacts.settled = false :=
      (settled_of_sampling (handSense_sampling _ _ _)).trans hsettles.1
    exact ⟨_, fun _ => exec_contactSettling hunsettled, (absurd hsettles ·),
      congrArg Host.Outcome.next (hsettling hsettles)⟩
  · exact ⟨_, (absurd · hsettles), fun _ => rfl, congrArg Host.Outcome.next (hkept hsettles)⟩

/-- A tick with nothing to hand on has sampled and compared, no more. -/
theorem exec_tick_quiet (hsettled : s.contacts.settled = true) (hsense : high = s.contacts.senseHigh)
    (hsame : changedInputs s.contacts.inputs (s.tickSampled pins high).contacts.inputs = [])
    (htimer : s.contacts.driven = true ∨ ∀ n, s.contacts.releaseTimer = some n → 1 < n) :
    exec (.tick pins high) s = .next (s.tickCompared pins high) := by
  obtain ⟨v, -, hkept, hexec⟩ := exec_tick_of_unchanged pins high hsame
  have hv := hkept (not_settlesAtTick hsettled)
  rw [tickCompared_handSense_quiet pins high fun hcompletes => hcompletes.1 hsense] at hv
  rw [hexec, hv, State.handRelease, if_neg]
  rintro ⟨hdriven, hzero⟩
  have hcounted : s.contacts.releaseTimer.map (· - 1) = some 0 :=
    (if_neg (by simp [hdriven])).symm.trans hzero
  obtain ⟨n, hn, hn0⟩ := Option.map_eq_some_iff.mp hcounted
  have := htimer.resolve_left (by simp [hdriven]) n hn
  omega

/-- An input that completes its debounce alone hands on its change (R109, R112). -/
theorem exec_tick_contactChange {i : Fin 16} {x : ContactInput} (hsettled : s.contacts.settled = true)
    (hsense : high = s.contacts.senseHigh) (hx : s.contacts.inputs[i.val]? = some x)
    (hnew : x.debounced ≠ pinSample pins i.val) (hrun : s.globals.contactDebounce ≤ x.run + 1)
    (htimer : s.contacts.releaseTimer = none)
    (hothers : ∀ j y, j ≠ i.val → s.contacts.inputs[j]? = some y →
      pinSample pins j = y.debounced ∨ y.run + 1 < s.globals.contactDebounce) :
    exec (.tick pins high) s = .next ((s.tickCompared pins high).handContactChange i) := by
  have hchanged : changedInputs s.contacts.inputs (s.tickSampled pins high).contacts.inputs = [i] :=
    changedInputs_of_completed hx hnew hrun hothers
  have hnot : ¬ s.settlesAtTick := not_settlesAtTick hsettled
  rw [tickSampled_of_not_settles pins high hnot] at hchanged
  rw [exec_tick, tickSampled_of_not_settles pins high hnot, State.handTick, hchanged, List.foldl_cons,
    List.foldl_nil, tickCompared_handSense_quiet pins high fun hcompletes => hcompletes.1 hsense]
  have hkept : ((s.tickCompared pins high).handContactChange i).contacts.settled = s.contacts.settled :=
    (settled_of_sampling (handContactChange_sampling _ i)).trans rfl
  rw [State.handSettling, if_pos hkept]
  refine congrArg Host.Outcome.next (if_neg ?_)
  rintro ⟨hdriven, hzero⟩
  have hholds : (s.tickCompared pins high).HoldsDrive := by
    refine ⟨?_, fun h => Bool.noConfusion (hdriven.symm.trans h)⟩
    simp [State.tickCompared, htimer]
  rw [(hholds.handContactChange i).stopped] at hzero
  cases hzero

/-- A tick on a settled block with the sense and the release timer at rest changes the inputs and the
moderation time only. -/
theorem tickCompared_of_rest (hsettled : s.contacts.settled = true) (hsense : high = s.contacts.senseHigh)
    (htimer : s.contacts.releaseTimer = none) : s.tickCompared pins high = { s with
      contacts := { s.contacts with
        inputs := compareContacts s.globals.contactDebounce pins s.contacts.inputs, senseRun := 0 },
      notice := { s.notice with moderationTicks := min 480 (s.notice.moderationTicks + 1) } } := by
  simp [State.tickCompared, hsettled, hsense, htimer]

end Tick

/-- Settles O53: a tick samples and compares, and hands on what that has completed. -/
theorem tickComparesEveryInput : Obligations.TickComparesEveryInput := by
  intro s pins high hinputs d compared counted settles senseCompletes sameStates quiet sampled
  have hsame : sameStates ↔
      changedInputs s.contacts.inputs (s.tickSampled pins high).contacts.inputs = [] :=
    (changedInputs_eq_nil_iff hinputs ((tickSampled_inputs_length pins high).trans hinputs)).symm
  refine ⟨?_, fun hstates => ?_, fun hquiet hstates => ?_, fun hquiet i x hx hnew hrun htimer hothers => ?_⟩
  · obtain ⟨hcompared, hsettled, hmoderation⟩ := handTick_sampled pins high (s := s)
    have hframe : sameOutsideProtection s ((s.tickSampled pins high).handTick s.contacts high) :=
      sameOutsideProtection_trans (t := s.tickSampled pins high) rfl (State.handTick_same _ _ _)
    exact ⟨_, exec_tick s pins high, hframe, hcompared, hsettled, hmoderation,
      fun h => handTick_drives pins high (h.imp_right (mt hsame.mpr))⟩
  · obtain ⟨v, hsettling, hkept, hexec⟩ := exec_tick_of_unchanged pins high (hsame.mp hstates)
    refine ⟨(s.tickCompared pins high).handSense s.contacts high, v, ?_, ?_, ?_⟩
    · split
      · exact tickCompared_handSense pins high ‹_›
      · exact tickCompared_handSense_quiet pins high ‹_›
    · split
      · exact hsettling ‹_›
      · exact hkept ‹_›
    · rw [hexec, exec_releaseTimerExpiry, State.handRelease]
      split <;> rfl
  · exact exec_tick_quiet pins high hquiet.1 hquiet.2 (hsame.mp hstates)
  · rw [exec_tick_contactChange pins high hquiet.1 hquiet.2 hx hnew hrun htimer hothers]
    have hi : i.val < compared.length := by
      rw [List.length_mapIdx, hinputs]
      exact i.isLt
    have hheld : ((compared.set i.val x)[i.val]?).map ContactInput.debounced ≠
        some (pinSample pins i.val) := by
      rw [List.getElem?_set_self hi]
      exact fun h => hnew (Option.some.inj h)
    refine Eq.trans ?_ (exec_debouncedContactChange ?_ ?_).symm
    · rw [tickCompared_of_rest pins high hquiet.1 hquiet.2 htimer, ← compareContacts_set_set hx hnew hrun]
      rfl
    · exact hquiet.1
    · exact hheld

end Sys2Proof.Machine
end

section
/-! The two ports as the events on their lines leave them: what a telegram error, a discard in ASSEMBLE and a
character do (O16, O17, O18). -/

namespace Sys2Proof.Machine

/-! ### Updates of a port that has just been set -/

section Updates
variable (s : State) (p : PortId) (x : Port)

@[simp] theorem port_setPort : (s.setPort p x).port p = x := by cases p <;> rfl

@[simp] theorem setPort_port : s.setPort p (s.port p) = s := by cases p <;> rfl

@[simp] theorem setPort_setPort (y : Port) : (s.setPort p x).setPort p y = s.setPort p y := by
  cases p <;> rfl

@[simp] theorem setPort_txn : (s.setPort p x).txn = s.txn := by cases p <;> rfl

@[simp] theorem updatePort_setPort (f : Port → Port) :
    (s.setPort p x).updatePort p f = s.setPort p (f x) := by simp [State.updatePort]

@[simp] theorem count_setPort (f : Counters → Counters) :
    (s.setPort p x).count p f = s.setPort p { x with counters := f x.counters } :=
  updatePort_setPort s p x _

end Updates

/-! ### Telegram errors and discards (R133, R147 to R149, R162) -/

/-- BAD-RESPONSE for a transaction in RECEIVING, as R162 says. -/
theorem endIfReceiving_badResponse (s : State) : s.endIfReceiving .badResponse = answerSpoilt s := by
  unfold State.endIfReceiving State.inPhase answerSpoilt
  cases htxn : s.txn with
  | idle => rfl
  | turnaround n => rfl
  | outstanding phase q =>
    cases phase with
    | receiving => exact endTransaction_unanswered (reason := .badResponse) htxn rfl
    | _ => rfl

theorem recordMissed_setBranch (s : State) (x : Port) (station channel : Nat) :
    recordMissed (s.setPort .branch x) station channel =
      (recordMissed s station channel).setPort .branch x := by
  unfold recordMissed
  rw [show (s.setPort .branch x).records = s.records from rfl]
  cases recordFor s.records station channel <;> rfl

theorem endedUnanswered_setBranch (s : State) (x : Port) (q : Transaction) (reason : Byte) (n : Nat) :
    endedUnanswered (s.setPort .branch x) q reason n =
      (endedUnanswered s q reason n).setPort .branch x := by
  unfold endedUnanswered endedInside
  cases q.origin with
  | relayed rewritten => rfl
  | ownRead => rfl
  | ownSet station channel live =>
    cases live with
    | false => rfl
    | true => simp only [recordMissed_setBranch]; rfl

/-- The end of a transaction leaves the branch port alone. -/
theorem answerSpoilt_setBranch (s : State) (x : Port) :
    answerSpoilt (s.setPort .branch x) = (answerSpoilt s).setPort .branch x := by
  unfold answerSpoilt
  rw [setPort_txn]
  split
  · exact endedUnanswered_setBranch ..
  · rfl

section Discards
variable (s : State) (p : PortId) (x : Port)

theorem telegramError_setPort : (s.setPort p x).telegramError p = portAfterError s p x := by
  unfold State.telegramError portAfterError
  simp only [port_setPort, updatePort_setPort]
  by_cases hrun : x.errorRun < 7
  · rw [if_pos hrun, if_pos (by omega)]
  · rw [if_neg hrun, if_neg (by omega)]
    cases p <;> rfl

theorem discardInAssembly_setPort : (s.setPort p x).discardInAssembly p = discarded s p x := by
  cases p with
  | trunk => exact telegramError_setPort s .trunk x
  | branch =>
    unfold State.discardInAssembly discarded
    simp only [endIfReceiving_badResponse, answerSpoilt_setBranch, telegramError_setPort]

/-- The gap timer's expiry (R134). -/
theorem gapExpires_eq : s.gapExpires p = discarded s p
    { s.port p with
      receiver := .hunt, gapTimer := none,
      counters := { (s.port p).counters with gap := bump (s.port p).counters.gap } } := by
  unfold State.gapExpires State.updatePort
  rw [count_setPort, discardInAssembly_setPort]
  rfl

theorem exec_gapTimerExpiry {n : Nat} (h : (s.port p).gapTimer = some n) :
    exec (.gapTimerExpiry p) s = .next (s.gapExpires p) :=
  congrArg Host.Outcome.next (if_pos (by simp [h]))

end Discards

/-- Settles O18: the expiry of a running timer is a discard in ASSEMBLE. -/
theorem gapExpiryDiscards : Obligations.GapExpiryDiscards := by
  intro s p n htimer
  rw [exec_gapTimerExpiry s p htimer, gapExpires_eq]

/-! ### Characters (R122, R123, R132, R133) -/

/-- A receiver that listens takes the character. -/
theorem exec_characterReceived {s : State} {p : PortId} (ch : LineChar) (htx : (s.port p).tx = none)
    (hwait : (s.port p).waitMark = false) :
    exec (.characterReceived p ch) s = .next (s.takeChar p ch) :=
  congrArg Host.Outcome.next (if_pos (by simp [Port.listens, htx, hwait]))

theorem charIsBreak_iff {ch : LineChar} (hstop : ch.stopMark = false) :
    charIsBreak ch = true ↔ ch.data = 0 ∧ ch.markBit = false := by
  simp [charIsBreak, hstop, and_comm]

section Characters
variable (s : State) (p : PortId) (x : Port) {ch : LineChar}

/-- A character error, in the terms of the claim (R123). -/
theorem countCharError_setPort (hstop : ch.stopMark = false) :
    (s.setPort p x).countCharError p (charIsBreak ch) = s.setPort p { x with
      receiver := .hunt, gapTimer := none, waitMark := true,
      counters :=
        if ch.data = 0 ∧ ch.markBit = false then { x.counters with breaks := bump x.counters.breaks }
        else { x.counters with framing := bump x.counters.framing } } := by
  unfold State.countCharError
  simp only [count_setPort, updatePort_setPort, charIsBreak_iff hstop, Port.toHunt]

section Hunt
variable (hhunt : x.receiver = .hunt)
include hhunt

theorem takeCharIn_hunt_error (hstop : ch.stopMark = false) :
    (s.setPort p x).takeCharIn p ch = (s.setPort p x).countCharError p (charIsBreak ch) := by
  simp [State.takeCharIn, hhunt, hstop]

theorem takeCharIn_hunt_begins (hstop : ch.stopMark = true) (hmark : ch.markBit = true) :
    (s.setPort p x).takeCharIn p ch = (s.setPort p (x.assembling [ch.data])).answerBegins p := by
  simp [State.takeCharIn, hhunt, hstop, hmark]

theorem takeCharIn_hunt_ignores (hstop : ch.stopMark = true) (hmark : ch.markBit = false) :
    (s.setPort p x).takeCharIn p ch = s.setPort p x := by
  simp [State.takeCharIn, hhunt, hstop, hmark]

end Hunt

section Assemble
variable {bytes : List Byte} (hassemble : x.receiver = .assemble bytes)
include hassemble

theorem takeCharIn_assemble_error (hstop : ch.stopMark = false) : (s.setPort p x).takeCharIn p ch =
    ((s.setPort p x).countCharError p (charIsBreak ch)).discardInAssembly p := by
  simp [State.takeCharIn, hassemble, hstop]

theorem takeCharIn_assemble_marked (hstop : ch.stopMark = true) (hmark : ch.markBit = true) :
    (s.setPort p x).takeCharIn p ch =
      ((s.setPort p (x.assembling [ch.data])).countLength p).discardInAssembly p := by
  simp [State.takeCharIn, hassemble, hstop, hmark]

theorem takeCharIn_assemble_next (hstop : ch.stopMark = true) (hmark : ch.markBit = false) :
    (s.setPort p x).takeCharIn p ch = (s.setPort p x).assembleNext p bytes ch.data := by
  simp [State.takeCharIn, hassemble, hstop, hmark]

end Assemble

end Characters

/-- Only the branch receiver has an answer to wait for (R162). -/
theorem answerBegins_other {s : State} {p : PortId}
    (h : p = .trunk ∨ ∀ q, s.txn ≠ .outstanding .awaiting q) : s.answerBegins p = s := by
  cases p with
  | trunk => rfl
  | branch =>
    have hnone := h.resolve_left nofun
    refine if_neg fun hphase => ?_
    unfold State.inPhase at hphase
    split at hphase
    · rename_i phase q htxn
      cases eq_of_beq hphase
      exact hnone q htxn
    · cases hphase

theorem answerBegins_awaiting {s : State} {q : Transaction} (h : s.txn = .outstanding .awaiting q) :
    s.answerBegins .branch = s.withTxn (.outstanding .receiving q) := by
  simp [State.answerBegins, State.inPhase, State.movePhase, h]

/-- Settles O16: by the stop bit, then the mark bit, then the transaction. -/
theorem huntTakesCharacters : Obligations.HuntTakesCharacters := by
  intro s p ch htx hwait hhunt
  rw [exec_characterReceived ch htx hwait, takeChar_heard]
  have hheard : (portHeard (s.port p) ch.noise).receiver = .hunt := hhunt
  refine ⟨fun hstop hmark hother => ?_, fun q hstop hmark hbranch hq => ?_, fun hstop hmark => ?_,
    fun hstop => ?_⟩
  · rw [takeCharIn_hunt_begins s p _ hheard hstop hmark, answerBegins_other (by simpa using hother)]
    rfl
  · subst hbranch
    rw [takeCharIn_hunt_begins s .branch _ hheard hstop hmark,
      answerBegins_awaiting (by simpa using hq)]
    rfl
  · rw [takeCharIn_hunt_ignores s p _ hheard hstop hmark]
  · -- the error leads to HUNT, where the receiver is already
    rw [takeCharIn_hunt_error s p _ hheard hstop, countCharError_setPort s p _ hstop, ← hheard]

/-! ### A character in ASSEMBLE (R127, R133) -/

theorem lenAllowed_iff (code len : Nat) : lenAllowed code len = true ↔ lenInTable code len := by
  unfold lenAllowed lenInTable
  split <;> simp [and_assoc]
  omega

section Next
variable (s : State) (p : PortId) (x : Port) {bytes : List Byte} {data : Byte}

/-- The fourth byte of an assembly is its LEN, the third its KIND (R124). -/
theorem assembly_heads (hbytes : bytes.length = 3) :
    (bytes ++ [data]).length = 4 ∧ (bytes ++ [data]).getD 2 0 = bytes.getD 2 0 ∧
      (bytes ++ [data]).getD 3 0 = data := by
  refine ⟨by simp [hbytes], List.getD_append _ _ _ _ (by omega), ?_⟩
  rw [List.getD_append_right _ _ _ _ (by omega), hbytes]
  rfl

/-- A byte that neither fixes a LEN which the kind forbids nor completes the telegram joins the assembly. -/
theorem assembleNext_joins
    (hlen : (bytes ++ [data]).length = 4 →
      lenInTable (kindCode ((bytes ++ [data]).getD 2 0)) ((bytes ++ [data]).getD 3 0).toNat)
    (hopen : (bytes ++ [data]).length ≠ 6 + ((bytes ++ [data]).getD 3 0).toNat) :
    (s.setPort p x).assembleNext p bytes data = s.setPort p (x.assembling (bytes ++ [data])) := by
  unfold State.assembleNext
  dsimp only
  rw [if_neg fun h => h.2 ((lenAllowed_iff _ _).mpr (hlen h.1)), if_neg hopen, updatePort_setPort]

/-- A LEN that the kind does not allow discards the assembly (R127). -/
theorem assembleNext_badLength (hbytes : bytes.length = 3)
    (hlen : ¬ lenInTable (kindCode (bytes.getD 2 0)) data.toNat) :
    (s.setPort p x).assembleNext p bytes data = discarded s p
      { x with receiver := .hunt, gapTimer := none,
               counters := { x.counters with length := bump x.counters.length } } := by
  obtain ⟨hfour, hkind, hdata⟩ := assembly_heads (data := data) hbytes
  have hforbidden : ¬ lenAllowed (kindCode (bytes.getD 2 0)) data.toNat = true :=
    mt (lenAllowed_iff _ _).mp hlen
  unfold State.assembleNext
  dsimp only
  rw [hkind, hdata, if_pos ⟨hfour, hforbidden⟩, updatePort_setPort, State.countLength, count_setPort,
    discardInAssembly_setPort]
  rfl

end Next

/-- Settles O17: by the stop bit, then the mark bit, then the position in the telegram. -/
theorem assembleTakesCharacters : Obligations.AssembleTakesCharacters := by
  intro s p ch bytes htx hwait hassemble heard
  have hheard : heard.receiver = .assemble bytes := hassemble
  rw [exec_characterReceived ch htx hwait, takeChar_heard]
  refine ⟨fun hstop hmark hlater hopen => ?_, fun hstop hmark hbytes hlen => ?_,
    fun hstop hmark hbytes hlen => ?_, fun hstop hmark => ?_, fun hstop => ?_⟩
  · rw [takeCharIn_assemble_next s p heard hheard hstop hmark,
      assembleNext_joins s p heard (fun h => absurd h hlater) hopen]
    rfl
  · obtain ⟨hfour, hkind, hdata⟩ := assembly_heads (data := ch.data) hbytes
    rw [takeCharIn_assemble_next s p heard hheard hstop hmark,
      assembleNext_joins s p heard (fun _ => by rw [hkind, hdata]; exact hlen) (by omega)]
    rfl
  · rw [takeCharIn_assemble_next s p heard hheard hstop hmark, assembleNext_badLength s p heard hbytes hlen]
  · rw [takeCharIn_assemble_marked s p heard hheard hstop hmark, State.countLength, count_setPort,
      discardInAssembly_setPort]
    rfl
  · rw [takeCharIn_assemble_error s p heard hheard hstop, countCharError_setPort s p heard hstop,
      discardInAssembly_setPort]

end Sys2Proof.Machine
end

section
/-! A completed telegram: its tests, and the judgement of a REFUSE and of the kinds that carry no items
(O19). -/

namespace Sys2Proof.Machine

/-! ### The tests of a completed telegram (R126, R131, R135) -/

section Tests
variable (s : State) (p : PortId) (x : Port) {bytes : List Byte}

theorem completeTelegram_badCheck (hcheck : checkPasses bytes = false) :
    (s.setPort p x).completeTelegram p bytes = discarded s p
      { x with receiver := .hunt, gapTimer := none,
               counters := { x.counters with crc := bump x.counters.crc } } := by
  unfold State.completeTelegram
  dsimp only
  rw [if_pos (by simp [hcheck]), updatePort_setPort, count_setPort, discardInAssembly_setPort]
  rfl

/-- No telegram error, but on the branch the end of a transaction in RECEIVING (R126, R162). -/
theorem completeTelegram_unassigned (hcheck : checkPasses bytes = true)
    (hdest : ¬ assigned (bytes.getD 0 0)) :
    (s.setPort p x).completeTelegram p bytes =
      (s.setPort p { x with receiver := .hunt, gapTimer := none }).discardAddress p := by
  have hunassigned : ¬ addressAssigned (assembledTelegram bytes).dest = true :=
    mt (addressAssigned_iff _).mp hdest
  unfold State.completeTelegram
  dsimp only
  rw [if_neg (not_not.mpr hcheck), if_pos hunassigned, updatePort_setPort]
  rfl

end Tests

/-! ### The judgement of a REFUSE and of other kinds (R163 to R166) -/

section Judgement
variable {s : State} {q : Transaction} {t : Telegram}

theorem branchIntake_plain (hreport : t.code ≠ 2) (happlied : t.code ≠ 4) :
    s.branchIntake t = s.judgeAnswer t := by
  unfold State.branchIntake
  rw [if_neg hreport, if_neg happlied]

theorem judge_refuse_answers (hrefuse : t.code = 5) (hrequest : q.request.code = 1 ∨ q.request.code = 3)
    (ha : answers q t) : judge q.request t = .refused t := by
  unfold answers at ha
  unfold judge
  rw [if_pos ha, if_neg (by simp [hrefuse]), if_neg (by simp [hrefuse]), if_pos ⟨hrefuse, hrequest⟩]

theorem judge_plain_bad (hreport : t.code ≠ 2) (happlied : t.code ≠ 4)
    (hbad : ¬ answers q t ∨ t.code ≠ 5) : judge q.request t = .badResponse := by
  unfold judge
  by_cases ha : t.src = q.request.dest ∧ t.dest = q.request.src
  · have hother : t.code ≠ 5 := hbad.resolve_left (not_not.mpr ha)
    rw [if_pos ha, if_neg fun h => hreport h.2, if_neg fun h => happlied h.2, if_neg fun h => hother h.1]
  · rw [if_neg ha]

/-- What a REFUSE of the station delivers: itself for a relayed request, a miss for an own SET (R164, R166). -/
theorem deliverResult_refused_relayed {rewritten : Bool} (hrefuse : t.code = 5)
    (ho : q.origin = .relayed rewritten) :
    s.deliverResult q (.refused t) = { s with trunkOut := s.trunkOut.answering t } := by
  have hforwarded : forwarded rewritten t = t := by simp [forwarded, hrefuse]
  unfold State.deliverResult
  simp only [ho, answerUp, hforwarded]
  rfl

theorem deliverResult_refused_own (ho : ∀ rewritten, q.origin ≠ .relayed rewritten) (n : Nat) :
    afterResult (s.deliverResult q (.refused t)) n = endedInside s q n := by
  unfold State.deliverResult endedInside
  cases h : q.origin with
  | relayed rewritten => exact absurd h (ho rewritten)
  | ownRead => rfl
  | ownSet station channel live =>
    cases live with
    | false => rfl
    | true => exact congrArg (afterResult · n) (ownSetFails_eq station channel)

end Judgement

/-- Settles O19: check before address on both ports, then the judgement by the transaction. -/
theorem completionTestsCheckThenAddress : Obligations.CompletionTestsCheckThenAddress := by
  constructor
  · intro s p bytes last noise hcompletes heard addressed
    rw [exec_telegramComplete hcompletes]
    refine ⟨fun hcheck => ?_, fun hcheck hdest => ?_⟩
    · rw [completeTelegram_badCheck s p _ hcheck]
    · rw [completeTelegram_unassigned s p _ hcheck hdest]
      unfold State.discardAddress
      rw [count_setPort]
      cases p with
      | trunk => rfl
      | branch => exact congrArg Host.Outcome.next (endIfReceiving_badResponse addressed)
  · intro s bytes last noise t hcompletes hcheck ht hdest hreport happlied good
    rw [exec_telegramComplete_good hcompletes hcheck ht hdest, branchIntake_plain hreport happlied]
    refine ⟨fun q hq ha hrefuse hrequest => ?_, fun q hq hbad => ?_, fun hnone => ?_⟩
    · have hended : good.judgeAnswer t = afterResult (good.deliverResult q (.refused t)) 0 := by
        rw [judgeAnswer_receiving (s := good) hq, judge_refuse_answers hrefuse hrequest ha,
          endTransaction_eq (s := good) hq]
        rfl
      rw [hended]
      refine ⟨fun rewritten ho => ?_, fun ho => ?_⟩
      · rw [deliverResult_refused_relayed hrefuse ho]
      · rw [deliverResult_refused_own ho]
    · rw [judgeAnswer_receiving (s := good) hq, judge_plain_bad hreport happlied hbad,
        endTransaction_unanswered (s := good) (reason := .badResponse) hq rfl]
      rfl
    · rw [judgeAnswer_other (s := good) hnone]

end Sys2Proof.Machine
end

section
/-! Samples of a line that the port does not drive: on a quiet line (O12) and of a character (O54). -/

namespace Sys2Proof.Machine

/-! ### The line-idle event and the idle count (R139, R140) -/

section Idle
variable (s : State) (p : PortId)

/-- The line-idle event, in the terms of the claims. -/
theorem lineIdles_eq : s.lineIdles p = lineIdleTaken s p := by
  unfold State.lineIdles State.applyStaged lineIdleTaken
  rw [show (s.updatePort p _).staged = s.staged by cases p <;> rfl]
  cases hleft : s.staged.replyLeft with
  | false => cases p <;> rfl
  | true =>
    cases p with
    | trunk => cases htrunk : s.staged.trunk <;> rfl
    | branch =>
      cases hbranch : s.staged.branch with
      | none => rfl
      | some staged => exact endIfReceiving_badResponse _

/-- The event sets the wait for mark and the rest at space itself, whatever the sample made of them. -/
theorem lineIdles_setPort (wait : Bool) (run : Nat) :
    (s.setPort p { s.port p with waitMark := wait, spaceRun := run }).lineIdles p = s.lineIdles p := by
  cases p <;> rfl

theorem exec_lineIdleEvent (htx : (s.port p).tx = none) (hidle : (s.port p).lineIdle = false) :
    exec (.lineIdleEvent p) s = .next (s.lineIdles p) :=
  congrArg Host.Outcome.next (if_pos ⟨by simp [htx], hidle⟩)

theorem countIdle_eq : s.countIdle p = idleCounted s p := by
  unfold State.countIdle idleCounted
  rw [lineIdles_eq]
  by_cases hcount : (s.port p).idleCount < 175
  · rw [if_pos hcount, if_pos (by unfold characterSamples; omega)]
    rfl
  · rw [if_neg hcount, if_neg (by unfold characterSamples; omega)]

variable {s p}

theorem idleCounted_below (h : (s.port p).idleCount < 175) :
    idleCounted s p = s.setPort p { s.port p with idleCount := (s.port p).idleCount + 1 } := if_pos h

theorem idleCounted_held (h : 175 ≤ (s.port p).idleCount) (hidle : (s.port p).lineIdle = true) :
    idleCounted s p = s := (if_neg (Nat.not_lt.mpr h)).trans (if_pos hidle)

theorem idleCounted_event (h : 175 ≤ (s.port p).idleCount) (hidle : (s.port p).lineIdle = false) :
    idleCounted s p = lineIdleTaken s p :=
  (if_neg (Nat.not_lt.mpr h)).trans (if_neg (by simp [hidle]))

end Idle

/-! ### A sample reaches the receiver (R122, R140, R149) -/

/-- A port whose receiver hears a sample, but for what the sampler and the gap timer do with it. -/
def Port.hears (x : Port) (l : Level) : Port :=
  match l with
  | .space => { heardLevel x .space with idleCount := 0, lineIdle := false }
  | .mark => { heardLevel x .mark with waitMark := false }

section Hears
variable (x : Port) (l : Level)

@[simp] theorem hears_sampler : (x.hears l).sampler = x.sampler := by cases l <;> rfl

@[simp] theorem hears_gapTimer : (x.hears l).gapTimer = x.gapTimer := by cases l <;> rfl

@[simp] theorem hears_tx : (x.hears l).tx = x.tx := by cases l <;> rfl

@[simp] theorem hears_space_waitMark : (x.hears .space).waitMark = x.waitMark := rfl

@[simp] theorem hears_mark_idleCount : (x.hears .mark).idleCount = x.idleCount := rfl

@[simp] theorem hears_mark_lineIdle : (x.hears .mark).lineIdle = x.lineIdle := rfl

theorem updatePort_hears_space (s : State) (p : PortId) :
    (s.setPort p (heardLevel x .space)).updatePort p (fun y => { y with idleCount := 0, lineIdle := false }) =
      s.setPort p (x.hears .space) := updatePort_setPort s p _ _

theorem updatePort_hears_mark (s : State) (p : PortId) :
    (s.setPort p (heardLevel x .mark)).updatePort p (fun y => { y with waitMark := false }) =
      s.setPort p (x.hears .mark) := updatePort_setPort s p _ _

end Hears

/-- The idle count takes a sample, last of all (R140). -/
def State.takesIdle (s : State) (p : PortId) (l : Level) : State :=
  match l with
  | .space => s
  | .mark => s.countIdle p

section Received
variable {s : State} {p : PortId} (htx : (s.port p).tx = none)
  (hturn : p = .branch → ∀ n, s.txn ≠ .turnaround n)

include hturn in
theorem trackTurnaround_of_none (x : Port) : (s.setPort p x).trackTurnaround p = s.setPort p x := by
  cases p with
  | trunk => rfl
  | branch =>
    unfold State.trackTurnaround State.countTurnaround
    simp only [setPort_txn]
    split
    · exact absurd ‹_› (hturn rfl _)
    · rfl

include htx hturn

theorem exec_sampleAtSpace : exec (.sampleAtSpace p) s =
    .next ((s.setPort p (heardLevel (s.port p) .space)).receiveSpace p) := by
  have hheard : (s.updatePort p (fun x => x.trackSpace .space)).trackTurnaround p =
      s.setPort p (heardLevel (s.port p) .space) := trackTurnaround_of_none hturn _
  have hsilent : (heardLevel (s.port p) .space).tx = none := htx
  show execSampleAtSpace p s = _
  unfold execSampleAtSpace
  simp only [hheard, port_setPort, hsilent]

theorem exec_sampleAtMark : exec (.sampleAtMark p) s =
    .next ((s.setPort p (heardLevel (s.port p) .mark)).receiveMark p) := by
  have hheard : (s.updatePort p (fun x => x.trackSpace .mark)).trackTurnaround p =
      s.setPort p (heardLevel (s.port p) .mark) := trackTurnaround_of_none hturn _
  have hsilent : (heardLevel (s.port p) .mark).tx = none := htx
  show execSampleAtMark p s = _
  unfold execSampleAtMark
  simp only [hheard, port_setPort, hsilent]

/-- While a character is being sampled, the sampler takes the sample, and then the idle count. -/
theorem exec_sampleAt_sampling {c : CharSampler} (hsampler : (s.port p).sampler = some c) (l : Level) :
    exec (sampleAt l p) s =
      .next (((s.setPort p ((s.port p).hears l)).sampleChar p c l).takesIdle p l) := by
  cases l with
  | space =>
    refine (exec_sampleAtSpace htx hturn).trans ?_
    simp only [State.receiveSpace, updatePort_hears_space, port_setPort, hears_sampler, hsampler]
    rfl
  | mark =>
    refine (exec_sampleAtMark htx hturn).trans ?_
    simp only [State.receiveMark, updatePort_hears_mark, port_setPort, hears_sampler, hsampler]
    rfl

section Quiet
variable (hsampler : (s.port p).sampler = none)
include hsampler

/-- With no character being sampled, a sample at space begins a start bit unless the receiver waits for
mark. -/
theorem exec_sampleAtSpace_quiet : exec (.sampleAtSpace p) s = .next (s.setPort p
    (if (s.port p).waitMark then (s.port p).hears .space else ((s.port p).hears .space).startBit)) := by
  rw [exec_sampleAtSpace htx hturn]
  simp only [State.receiveSpace, updatePort_hears_space, port_setPort, hears_sampler, hsampler,
    hears_space_waitMark]
  split
  · rfl
  · rw [updatePort_setPort]

/-- With no character being sampled, the gap timer takes a sample at mark, and then the idle count. -/
theorem exec_sampleAtMark_quiet : exec (.sampleAtMark p) s =
    .next (((s.setPort p ((s.port p).hears .mark)).countGap p).countIdle p) := by
  rw [exec_sampleAtMark htx hturn]
  simp only [State.receiveMark, updatePort_hears_mark, port_setPort, hears_sampler, hsampler]

end Quiet

end Received

/-! ### The gap timer takes a sample at mark (R134) -/

section Gap
variable {s : State} {p : PortId}

theorem countGap_stopped (h : (s.port p).gapTimer = none) : s.countGap p = s := by
  unfold State.countGap
  rw [h]

theorem countGap_runs {n : Nat} (h : (s.port p).gapTimer = some n) (hn : 1 < n) :
    s.countGap p = s.setPort p { s.port p with gapTimer := some (n - 1) } := by
  unfold State.countGap
  rw [h]
  exact if_neg (by omega)

theorem countGap_expires {n : Nat} (h : (s.port p).gapTimer = some n) (hn : n ≤ 1) :
    s.countGap p = s.gapExpires p := by
  unfold State.countGap
  rw [h]
  exact if_pos hn

end Gap

/-- Settles O12: the sample by its level, then the gap timer and the idle count that it finds. -/
theorem samplesOnAQuietLine : Obligations.SamplesOnAQuietLine := by
  intro s p htx hsampler hturn
  have hmark := exec_sampleAtMark_quiet htx hturn hsampler
  have hstopped (h : (s.port p).gapTimer = none) :
      exec (.sampleAtMark p) s = .next (idleCounted (s.setPort p ((s.port p).hears .mark)) p) := by
    rw [hmark, countGap_stopped (by simpa using h), countIdle_eq]
  rw [exec_sampleAtSpace_quiet htx hturn hsampler]
  refine ⟨fun hwait => ?_, fun hwait => ?_, fun hgap hcount => ?_, fun hgap hcount hidle => ?_,
    fun hgap hcount hidle => ?_, fun n hgap hn => ?_, fun n hgap hn => ?_⟩
  · rw [if_neg (by simp [hwait])]
    rfl
  · rw [if_pos hwait]
    rfl
  · rw [hstopped hgap, idleCounted_below (by simpa using hcount), setPort_setPort, port_setPort]
    rfl
  · rw [hstopped hgap, idleCounted_event (by simpa using hcount) (by simpa using hidle), ← lineIdles_eq,
      exec_lineIdleEvent s p htx hidle]
    exact congrArg Host.Outcome.next (lineIdles_setPort s p _ _)
  · rw [hstopped hgap, idleCounted_held (by simpa using hcount) (by simpa using hidle)]
    rfl
  · rw [hmark, countGap_runs (by simpa using hgap) hn, countIdle_eq, setPort_setPort, port_setPort]
    rfl
  · refine ⟨(s.setPort p ((s.port p).hears .mark)).gapExpires p, ?_, ?_⟩
    · exact exec_gapTimerExpiry _ p (by simpa using hgap)
    · rw [hmark, countGap_expires (by simpa using hgap) hn, countIdle_eq]

/-! ### The decision of a bit (R122) -/

theorem majority_eq (a b c : Level) : majority a b c = twoOfThree a b c := by
  cases a <;> cases b <;> cases c <;> rfl

theorem middles_disagree (a b c : Level) :
    (!(a == b && b == c)) = decide (¬ sameLevels a b c) := by
  cases a <;> cases b <;> cases c <;> rfl

section Sampler
variable (s : State) (p : PortId) (x : Port) (c : CharSampler) (l : Level)

/-- Between the decisions the eighth and ninth samples are kept. -/
theorem sampleChar_keeps (hphase : c.index % 16 ≠ 9) : (s.setPort p x).sampleChar p c l =
    s.setPort p { x with sampler := some { c with
      index := c.index + 1,
      eighth := if c.index % 16 = 7 then l else c.eighth,
      ninth := if c.index % 16 = 8 then l else c.ninth } } :=
  (if_neg hphase).trans (updatePort_setPort s p x _)

/-- The bits of a character with the one that a tenth sample decides. -/
def CharSampler.decided (c : CharSampler) (l : Level) : List Bool :=
  c.bits ++ [decide (twoOfThree c.eighth c.ninth l = .mark)]

/-- The NOISE of a character with the bit that a tenth sample decides. -/
def CharSampler.noisy (c : CharSampler) (l : Level) : Bool :=
  c.noise || decide (¬ sameLevels c.eighth c.ninth l)

/-- The tenth sample of a bit decides it: a false start, the end of the character, or one more bit. -/
theorem sampleChar_decides (hphase : c.index % 16 = 9) : (s.setPort p x).sampleChar p c l =
    if c.bits = [] ∧ twoOfThree c.eighth c.ninth l = .mark then s.setPort p (x.falseStart c.gapLeft)
    else if c.bits.length = 10 then (s.setPort p x).takeChar p (charOfBits (c.decided l) (c.noisy l))
    else s.setPort p { x with sampler := some { c with
      index := c.index + 1, bits := c.decided l, noise := c.noisy l } } := by
  unfold State.sampleChar
  simp only [if_pos hphase, majority_eq, middles_disagree, updatePort_setPort, List.length_append,
    List.length_singleton, Nat.reduceEqDiff, Nat.add_eq_right, List.length_eq_zero_iff]
  rfl

end Sampler

/-! ### The character that the bits make (R121, R122) -/

theorem testBit_maskOf (bits : List Bool) (j : Nat) : (maskOf bits).testBit j = bits.getD j false := by
  induction bits generalizing j with
  | nil => simp [maskOf]
  | cons b bits ih =>
    have hbit : maskOf (b :: bits) = Nat.bit b (maskOf bits) := by
      cases b <;> simp [maskOf, bitIf, Nat.bit, Nat.add_comm]
    rw [hbit]
    cases j with
    | zero => simp
    | succ j => rw [Nat.testBit_bit_succ, ih]; rfl

/-- The eight data bits follow the start bit, least significant first. -/
theorem charOfBits_data {bits : List Bool} {noise : Bool} {j : Nat} (hj : j < 8) :
    (charOfBits bits noise).data.getLsbD j = bits.getD (j + 1) false := by
  have htaken : ((bits.drop 1).take 8)[j]? = bits[j + 1]? := by
    rw [List.getElem?_take_of_lt hj, List.getElem?_drop, Nat.add_comm]
  unfold charOfBits
  rw [BitVec.getLsbD_ofNat, testBit_maskOf, List.getD_eq_getElem?_getD, htaken]
  simp [hj]

/-- A bit decided before the stop bit stands in the list of all eleven. -/
theorem decided_getElem? {c : CharSampler} {l : Level} {i : Nat} (h : i < c.bits.length) :
    c.bits[i]? = some ((c.decided l).getD i false) := by
  rw [CharSampler.decided, List.getD_append _ _ _ _ h, List.getD_eq_getElem _ _ h, List.getElem?_eq_getElem h]

/-- Settles O54: between two decisions, at a false start, at a bit, and at the stop bit. -/
theorem samplesDecideBits : Obligations.SamplesDecideBits := by
  intro s p c l htx hwait hsampler hturn heard counted level noise
  have hheard : (s.port p).hears l = heard := by
    cases l with
    | space => rfl
    | mark => simp [heard, Port.hears, heardLevel, hwait]
  have hcounted (u : State) : u.takesIdle p l = counted u := by
    cases l with
    | space => rfl
    | mark => exact countIdle_eq u p
  have hexec : exec (sampleAt l p) s = .next (counted ((s.setPort p heard).sampleChar p c l)) := by
    rw [exec_sampleAt_sampling htx hturn hsampler, hheard, hcounted]
  rw [hexec]
  refine ⟨fun hphase => ?_, fun hphase hbits hmark hgap => ?_, fun hphase hbits hmark hgap => ?_,
    fun hphase hopen => ?_, fun hphase hlast => ?_⟩
  · rw [sampleChar_keeps s p heard c l hphase]
  · rw [sampleChar_decides s p heard c l hphase, if_pos ⟨hbits, hmark⟩, hgap]
    rfl
  · obtain ⟨left, hleft⟩ := Option.ne_none_iff_exists'.mp hgap
    refine ⟨Config.gapAfterFalseStart left, ?_⟩
    rw [sampleChar_decides s p heard c l hphase, if_pos ⟨hbits, hmark⟩, hleft]
    rfl
  · have hstart : ¬ (c.bits = [] ∧ level = .mark) := by
      rcases hopen with ⟨-, hspace⟩ | ⟨hbits, -⟩
      · simp [hspace]
      · simp [hbits]
    have hlater : c.bits.length ≠ 10 := by
      rcases hopen with ⟨hbits, -⟩ | ⟨-, hlater⟩
      · simp [hbits]
      · exact hlater
    rw [sampleChar_decides s p heard c l hphase, if_neg hstart, if_neg hlater]
    rfl
  · have hstart : ¬ (c.bits = [] ∧ level = .mark) := fun h => by simp [h.1] at hlast
    have hlistens : heard.tx = none ∧ heard.waitMark = false := by
      cases l <;> exact ⟨htx, hwait⟩
    refine ⟨charOfBits (c.decided l) (c.noisy l), _,
      exec_characterReceived (s := s.setPort p heard) _ (by simpa using hlistens.1)
        (by simpa using hlistens.2), ?_, fun j hj => ?_, ?_, ?_, rfl⟩
    · rw [sampleChar_decides s p heard c l hphase, if_neg hstart, if_pos hlast]
    · rw [charOfBits_data hj]
      exact decided_getElem? (by omega)
    · exact decided_getElem? (by omega)
    · show (c.decided l).getD 10 false = _
      rw [CharSampler.decided, List.getD_append_right _ _ _ _ (by omega), hlast]
      rfl

end Sys2Proof.Machine
end

section
/-! The bytes of a telegram, the levels of a transmission, and the pins (O10). -/

namespace Sys2Proof.Machine

/-! ### The bytes of a telegram (R124, R131) -/

/-- The check of "123456789" (R131), bit by bit from the preset on. -/
theorem crc16_digits :
    crc16 [0x31#8, 0x32#8, 0x33#8, 0x34#8, 0x35#8, 0x36#8, 0x37#8, 0x38#8, 0x39#8] = 0x29B1#16 := by
  simp [crc16, crcByte, crcShift, BitVec.msb_eq_decide]

/-- A check that is computed over the bytes before it passes. -/
theorem checkPasses_append (covered : List Byte) :
    checkPasses (covered ++ be16 (crc16 covered).toNat) = true := by
  have hlen : (covered ++ be16 (crc16 covered).toNat).length - 2 = covered.length := by simp [be16]
  unfold checkPasses
  rw [hlen, List.drop_left, List.take_left, beq_self_eq_true]

section Bytes
variable (t : Telegram)

theorem bytes_length : t.bytes.length = 6 + t.payload.length := by
  simp [Telegram.bytes, Telegram.covered, be16]
  omega

/-- The fourth byte is LEN, which a byte can hold. -/
theorem bytes_len (h : t.payload.length ≤ 48) : (t.bytes.getD 3 0).toNat = t.payload.length :=
  toNat_byte (Nat.lt_of_le_of_lt h (by decide))

theorem checkPasses_bytes : checkPasses t.bytes = true := checkPasses_append t.covered

/-- The payload is the LEN bytes from the fifth on. -/
theorem assembledTelegram_bytes (h : t.payload.length ≤ 48) : assembledTelegram t.bytes = t := by
  have hpayload : (t.bytes.drop 4).take (t.bytes.getD 3 0).toNat = t.payload := by
    rw [bytes_len t h]
    exact List.take_left
  unfold assembledTelegram
  rw [hpayload]
  rfl

end Bytes

/-! ### The levels of a transmission (R121, R141, R142) -/

theorem charLevel_eq (pos : Nat) (d : Byte) (b : Nat) :
    charLevel pos d b = characterLevel d (decide (pos = 0)) b := rfl

section Levels
variable (x : Transmission) {b : Nat}

theorem levelSent_preamble (h : b < 11) : x.levelSent b = .mark := if_pos h

theorem levelSent_break (hbreak : x.withBreak = true) (hlow : 11 ≤ b) (hhigh : b < 44) :
    x.levelSent b = if b < 33 then .space else .mark := by
  have hlead : x.leadBits = 44 := by simp [Transmission.leadBits, hbreak]
  unfold Transmission.levelSent
  rw [if_neg (Nat.not_lt.mpr hlow), if_pos (by rw [hlead]; exact hhigh)]

/-- Eleven bit times for each character, from the end of the lead on. -/
theorem levelSent_character {k : Nat} {d : Byte} (hk : x.bytes[k]? = some d) (hb : b < 11) :
    x.levelSent (x.leadBits + 11 * k + b) = characterLevel d (decide (k = 0)) b := by
  have hlead : preambleBits ≤ x.leadBits := by
    unfold Transmission.leadBits
    split <;> decide
  have hoffset : x.leadBits + 11 * k + b - x.leadBits = 11 * k + b := by omega
  have hchar : (11 * k + b) / 11 = k := by omega
  have hbit : (11 * k + b) % 11 = b := by omega
  have hbyte : x.bytes.getD k 0 = d := by rw [List.getD_eq_getElem?_getD, hk]; rfl
  unfold Transmission.levelSent
  dsimp only
  rw [if_neg (by omega), if_neg (by omega), hoffset, hchar, hbit, hbyte, charLevel_eq]

end Levels

/-! ### The pins (R138, R141) -/

/-- The model's pin carries the level that it is given. -/
theorem pinOfLevel_carries (settings : PortSettings) (l : Level) :
    pinCarries settings l (pinOfLevel settings.polarity l) := by
  unfold pinCarries
  cases settings.polarity <;> cases l <;> decide

theorem levelOfPin_mark_iff (polarity : Polarity) (high : Bool) :
    levelOfPin polarity high = .mark ↔ (high = true ↔ polarity = .normal) := by
  cases polarity <;> cases high <;> decide

section Pins
variable {port : Port}

theorem sending_of_tx {x : Transmission} (h : port.tx = some x) :
    port.sending = x.levelSent (x.elapsed / 16) := by
  unfold Port.sending
  rw [h]

theorem sending_of_silent (h : port.tx = none) : port.sending = .mark := by
  unfold Port.sending
  rw [h]

theorem txdPin_carries {l : Level} (h : port.sending = l) : pinCarries port.settings l port.txdPin :=
  h ▸ pinOfLevel_carries port.settings port.sending

end Pins

section Enables
variable {s : State}

theorem tkDe_of_tx {x : Transmission} (h : s.trunk.tx = some x) :
    s.tkDe = true ↔ x.levelSent (x.elapsed / 16) = .space := by
  simp [State.tkDe, h, sending_of_tx h]

theorem tkDe_of_silent (h : s.trunk.tx = none) : s.tkDe = false := by simp [State.tkDe, h]

theorem brDe_eq : s.brDe = s.branch.tx.isSome := rfl

end Enables

/-- Settles O10: bytes, levels and pins, each from its own lemmas. -/
theorem telegramsSentAreReadBack : Obligations.TelegramsSentAreReadBack := by
  refine ⟨crc16_digits, fun t h => ?_, fun x => ?_, fun s x => ?_, fun s => ?_, levelOfPin_mark_iff⟩
  · exact ⟨bytes_length t, bytes_len t h, checkPasses_bytes t, assembledTelegram_bytes t h⟩
  · refine ⟨fun b => levelSent_preamble x, fun hbreak => ⟨fun b hlow hhigh => ?_, fun b hlow hhigh => ?_⟩,
      fun k d b => levelSent_character x⟩
    · rw [levelSent_break x hbreak hlow (by omega), if_pos hhigh]
    · rw [levelSent_break x hbreak (by omega) hhigh, if_neg (Nat.not_lt.mpr hlow)]
  · exact ⟨fun h => ⟨tkDe_of_tx h, txdPin_carries (sending_of_tx h)⟩,
      fun h => ⟨by rw [brDe_eq, h]; rfl, txdPin_carries (sending_of_tx h)⟩⟩
  · exact ⟨fun h => ⟨tkDe_of_silent h, txdPin_carries (sending_of_silent h)⟩,
      fun h => ⟨by rw [brDe_eq, h]; rfl, txdPin_carries (sending_of_silent h)⟩⟩

end Sys2Proof.Machine
end

section
/-! The trunk transmitter: what it begins with on an idle line (O13), and what its completions lead to (O14). -/

namespace Sys2Proof.Machine

/-! ### The marks of the notice pending state (R180, R182) -/

section Marks
variable (n : Notice) {m : Mark}

theorem isSet_eq (m : Mark) : m.isSet = (m != .clear) := by cases m <;> rfl

theorem isSet_of_ne (h : m ≠ .clear) : m.isSet = true := by rw [isSet_eq]; exact bne_iff_ne.mpr h

theorem mapMarks_eq (f : Mark → Mark) : n.mapMarks f = noticeMarks n f := rfl

theorem carry_eq : Mark.carry = fun m => if m = .set then .carried else m := by
  funext m; cases m <;> rfl

theorem depart_eq : Mark.depart = fun m => if m = .carried then .clear else m := by
  funext m; cases m <;> rfl

/-- What a NOTICE reports makes the pending state non-empty. -/
theorem nonEmpty_of_somethingPending (h : somethingPending n) : n.nonEmpty = true := by
  unfold Notice.nonEmpty
  rcases h with ⟨m, hm, hset⟩ | h | h | h | h | h
  · rw [List.any_eq_true.mpr ⟨m, hm, isSet_of_ne hset⟩]
    rfl
  all_goals simp [isSet_of_ne h]

end Marks

/-! ### A NOTICE (R182) -/

section BuiltNotice
variable (s : State)

theorem pendingCoils_eq : s.pendingCoils =
    (List.finRange 16).filter (fun c => (s.notice.coils.getD c.val .clear) != .clear) := by
  simp only [State.pendingCoils, isSet_eq]
  rfl

/-- One coil number for each pending mark. -/
theorem pendingCoils_length (hcoils : s.notice.coils.length = 16) :
    s.pendingCoils.length = (s.notice.coils.filter (fun m => m != .clear)).length := by
  have hmarks : (List.finRange 16).map (fun c => s.notice.coils.getD c.val .clear) = s.notice.coils := by
    refine List.ext_getElem (by simp [hcoils]) fun i _ hi => ?_
    simp [List.getElem?_eq_getElem hi]
  calc s.pendingCoils.length
      = (((List.finRange 16).map (fun c => s.notice.coils.getD c.val .clear)).filter
          (fun m => m != .clear)).length := by
        rw [pendingCoils_eq, List.filter_map, List.length_map]
        rfl
    _ = (s.notice.coils.filter (fun m => m != .clear)).length := by rw [hmarks]

theorem noticeFlags_eq : s.noticeFlags =
    bitIf s.fallback 1 + bitIf (s.contacts.recognition != .clear) 2 +
      bitIf (s.notice.actuatorLost != .clear) 4 + bitIf (s.notice.portRestart != .clear) 8 +
      bitIf (s.notice.contactChange != .clear) 16 + bitIf (s.notice.plantTripEvent != .clear) 32 +
      bitIf (s.notice.fallbackChange != .clear) 64 := by
  simp only [State.noticeFlags, isSet_eq]

theorem bitIf_le (b : Bool) (w : Nat) : bitIf b w ≤ w := by cases b <;> simp [bitIf]

/-- The seven flags fit in their byte. -/
theorem noticeFlags_lt : s.noticeFlags < 256 := by
  unfold State.noticeFlags
  linarith [bitIf_le s.fallback 1, bitIf_le (s.contacts.recognition != .clear) 2,
    bitIf_le s.notice.actuatorLost.isSet 4, bitIf_le s.notice.portRestart.isSet 8,
    bitIf_le s.notice.contactChange.isSet 16, bitIf_le s.notice.plantTripEvent.isSet 32,
    bitIf_le s.notice.fallbackChange.isSet 64]

theorem buildNotice_payload : s.buildNotice.payload =
    be32 s.plantClock ++ ([BitVec.ofNat 8 s.noticeFlags] ++ s.pendingCoils.flatMap s.noticeEntry) :=
  List.append_assoc ..

/-- Entries of one length each take that many bytes together. -/
theorem length_flatMap_of_length {α β : Type} {f : α → List β} {k : Nat} (h : ∀ a, (f a).length = k)
    (xs : List α) : (xs.flatMap f).length = k * xs.length := by
  simp [List.length_flatMap, h, Nat.mul_comm]

theorem buildNotice_length : s.buildNotice.payload.length = 5 + 2 * s.pendingCoils.length := by
  have hentries := length_flatMap_of_length (f := s.noticeEntry) (k := 2) (fun _ => rfl) s.pendingCoils
  rw [buildNotice_payload, List.length_append, List.length_append, hentries, ← Nat.add_assoc]
  rfl

end BuiltNotice

/-! ### The begin of a trunk transmission (R141, R154, R181) -/

section Begin
variable {s : State} (hidle : s.trunk.lineIdle = true) (htx : s.trunk.tx = none)

theorem beginTrunk_eq (s : State) (t : Telegram) (owner : TxOwner) : s.beginTrunk t owner =
    { s with trunk := { portReleased s.trunk with tx := some (transmissionOf t.bytes false owner) } } := rfl

include hidle htx

theorem trunkFree_of_idle : s.trunkFree = true := by simp [State.trunkFree, hidle, htx]

theorem exec_trunkTransmissionBegin_filled {first : OutTelegram} {rest : List OutTelegram}
    (hfilled : s.trunkOut.filled = first :: rest) :
    exec .trunkTransmissionBegin s = .next (s.beginTrunk first.telegram .listHead) := by
  refine congrArg Host.Outcome.next ((if_pos (trunkFree_of_idle hidle htx)).trans ?_)
  rw [hfilled]

theorem exec_trunkTransmissionBegin_notice (hfilled : s.trunkOut.filled = [])
    (hoffered : s.noticeOffered = true) : exec .trunkTransmissionBegin s =
      .next ((s.withNotice (s.notice.mapMarks Mark.carry)).beginTrunk s.buildNotice .notice) := by
  refine congrArg Host.Outcome.next ((if_pos (trunkFree_of_idle hidle htx)).trans ?_)
  rw [hfilled]
  exact if_pos hoffered

end Begin

theorem noticeOffered_of_pending {s : State} (hfilled : s.trunkOut.filled = [])
    (hpending : somethingPending s.notice) (hon : s.globals.noticesOn = true)
    (hopen : 8 * s.globals.moderation ≤ s.notice.moderationTicks ∨ s.notice.urgent ≠ .clear) :
    s.noticeOffered = true := by
  have hmoderation : s.moderationOpen = true :=
    (Bool.or_eq_true ..).mpr (hopen.imp decide_eq_true isSet_of_ne)
  rw [State.noticeOffered, nonEmpty_of_somethingPending _ hpending, hon, hfilled, hmoderation]
  rfl

/-- Settles O13: the first filled telegram, or the NOTICE as it is built. -/
theorem trunkTransmissionBegins : Obligations.TrunkTransmissionBegins := by
  intro s hidle htx
  refine ⟨fun first rest hfilled => ?_, fun hcoils hfilled hpending hon hopen => ⟨s.buildNotice, ?_, rfl, rfl,
    rfl, ?_, rfl, ?_, ?_⟩⟩
  · rw [exec_trunkTransmissionBegin_filled hidle htx hfilled, beginTrunk_eq]
  · rw [exec_trunkTransmissionBegin_notice hidle htx hfilled
      (noticeOffered_of_pending hfilled hpending hon hopen), mapMarks_eq, carry_eq]
    rfl
  · rw [buildNotice_length, pendingCoils_length s hcoils]
  · rw [← noticeFlags_eq, ← toNat_byte (noticeFlags_lt s)]
    rfl
  · rw [← pendingCoils_eq]
    rfl

/-! ### A completed trunk transmission (R139, R146, R154, R176, R182) -/

section Complete
variable {s : State} {x : Transmission}

theorem exec_trunkTransmissionComplete (htx : s.trunk.tx = some x) :
    exec .trunkTransmissionComplete s = .next (s.trunkLeft x) := by
  show execTrunkTransmissionComplete s = _
  unfold execTrunkTransmissionComplete
  rw [htx]

/-- The first place becomes free, and what waits for its telegram's departure takes place. -/
theorem trunkLeft_listHead {first : OutTelegram} {rest : List OutTelegram} (howner : x.owner = .listHead)
    (hfilled : s.trunkOut.filled = first :: rest) : s.trunkLeft x = ({ s with
      trunk := portReleased s.trunk, trunkOut := { s.trunkOut with filled := rest } } : State).replyLeft
        first.role := by
  unfold State.trunkLeft
  rw [howner]
  unfold State.listHeadLeft
  simp only [show (s.updatePort .trunk Port.endTransmission).trunkOut.filled = first :: rest from hfilled]
  rfl

theorem trunkLeft_notice (howner : x.owner = .notice) : s.trunkLeft x = { s with
    trunk := portReleased s.trunk,
    notice := { noticeMarks s.notice (fun m => if m = .carried then .clear else m) with
      moderationTicks := 0 } } := by
  unfold State.trunkLeft
  rw [howner, ← depart_eq]
  rfl

end Complete

/-- Settles O14: by the owner of the transmission and the role of the first telegram. -/
theorem trunkTelegramOrNoticeLeaves : Obligations.TrunkTelegramOrNoticeLeaves := by
  intro s x htx
  rw [exec_trunkTransmissionComplete htx]
  refine ⟨fun first rest howner hfilled hrole => ?_, fun first rest howner hfilled hrole => ?_,
    fun howner => ?_⟩
  · rw [trunkLeft_listHead howner hfilled, hrole]
    rfl
  · rw [trunkLeft_listHead howner hfilled, hrole]
    rfl
  · rw [trunkLeft_notice howner]

end Sys2Proof.Machine
end

section
/-! Read-back: what a sample does to the transmission of either port (O15), the mismatch on the branch (O9),
and the line-idle event (O11). -/

namespace Sys2Proof.Machine

/-! ### A mismatch (R144, R145) -/

section Mismatch
variable {s : State} {x : Transmission}

theorem exec_collision (htx : s.trunk.tx = some x) : exec .collision s = .next (s.collide x) := by
  show execCollision s = _
  unfold execCollision
  rw [htx]

theorem collide_listHead (howner : x.owner = .listHead) : s.collide x = { s with
    trunk := { portReleased s.trunk with counters :=
      { s.trunk.counters with collision := bump s.trunk.counters.collision } } } := by
  unfold State.collide
  rw [howner]
  rfl

theorem collide_notice (howner : x.owner = .notice) : s.collide x = { s with
    trunk := { portReleased s.trunk with counters :=
      { s.trunk.counters with collision := bump s.trunk.counters.collision } },
    notice := noticeMarks s.notice (fun m => if m = .carried then .set else m) } := by
  unfold State.collide
  rw [howner, ← uncarry_eq]
  rfl

theorem exec_branchLineFault (htx : s.branch.tx = some x) :
    exec .branchLineFault s = .next s.lineFaults :=
  congrArg Host.Outcome.next (if_pos (by simp [htx]))

/-- The mismatch ends the transaction as an unanswered one (R145, R165 to R167). -/
theorem lineFaults_eq {phase : TxnPhase} {q : Transaction} (htxn : s.txn = .outstanding phase q) :
    s.lineFaults = endedUnanswered { s with branch := { portReleased s.branch with counters :=
      { s.branch.counters with lineFault := bump s.branch.counters.lineFault } } } q 0xE3#8 0 :=
  endTransaction_unanswered (r := .lineFault) (reason := .lineFault) htxn rfl

end Mismatch

/-! ### The end of a branch transmission and of its break (R146, R161) -/

section BranchEvents
variable {s : State} {q : Transaction}

theorem inPhase_of_outstanding {phase : TxnPhase} (htxn : s.txn = .outstanding phase q) :
    s.inPhase phase = true := by simp [State.inPhase, htxn]

theorem exec_branchTransmissionComplete {x : Transmission} (htx : s.branch.tx = some x)
    (htxn : s.txn = .outstanding .sending q) : exec .branchTransmissionComplete s = .next s.branchLeft :=
  congrArg Host.Outcome.next (if_pos ⟨by simp [htx], inPhase_of_outstanding htxn⟩)

theorem exec_breakEnd (htxn : s.txn = .outstanding .brk q) : exec .breakEnd s = .next s.endBreak :=
  congrArg Host.Outcome.next (if_pos (inPhase_of_outstanding htxn))

theorem movePhase_outstanding {phase : TxnPhase} (next : TxnPhase) (htxn : s.txn = .outstanding phase q) :
    s.movePhase next = s.withTxn (.outstanding next q) := by
  unfold State.movePhase
  rw [htxn]

theorem endBreak_eq {x : Transmission} (htx : s.branch.tx = some x)
    (htxn : s.txn = .outstanding .brk q) : s.endBreak = { s with
      branch := { s.branch with tx := some { x with elapsed := 704 } },
      txn := .outstanding .sending q } := by
  refine (movePhase_outstanding (s := s.updatePort .branch _) .sending htxn).trans ?_
  simp only [State.updatePort, State.port, htx]
  rfl

end BranchEvents

/-! ### A sample read back (R141, R143, R146, R161) -/

/-- A transmission after a sample that is no mismatch: one sample on, with the eighth and ninth of the
present bit time. -/
def Transmission.advanced (x : Transmission) (l : Level) : Transmission :=
  { x with
    elapsed := x.elapsed + 1
    eighth := if x.elapsed % 16 = 7 then l else x.eighth
    ninth := if x.elapsed % 16 = 8 then l else x.ninth }

/-- A bit time is read back at another level than the one sent (R143). -/
def Transmission.mismatches (x : Transmission) (l : Level) : Prop :=
  x.elapsed % 16 = 9 ∧ twoOfThree x.eighth x.ninth l ≠ x.levelSent (x.elapsed / 16)

theorem samples_eq (x : Transmission) :
    samplesPerBit * x.totalBits = 16 * ((if x.withBreak then 44 else 11) + 11 * x.bytes.length) := rfl

section ReadBack
variable {s : State} {p : PortId} {x : Transmission} {l : Level}

theorem readBack_mismatch (h : x.mismatches l) : s.readBack p x l =
    match p with | .trunk => s.collide x | .branch => s.lineFaults := by
  unfold State.readBack
  exact if_pos (by rwa [majority_eq])

theorem readBack_agrees (h : ¬ x.mismatches l) : s.readBack p x l =
    let t := s.setPort p { s.port p with tx := some (x.advanced l) }
    if x.elapsed + 1 = samplesPerBit * x.totalBits then
      match p with | .trunk => t.trunkLeft x | .branch => t.branchLeft
    else if p = .branch ∧ x.withBreak ∧ x.elapsed + 1 = 704 then t.endBreak
    else t := by
  unfold State.readBack
  exact if_neg (by rwa [majority_eq])

/-- While the port transmits, a sample is read back. -/
theorem exec_sampleAt_sending (htx : (s.port p).tx = some x) (hturn : p = .branch → ∀ n, s.txn ≠ .turnaround n)
    (l : Level) :
    exec (sampleAt l p) s = .next ((s.setPort p (heardLevel (s.port p) l)).readBack p x l) := by
  have hheard : (s.updatePort p (fun x => x.trackSpace l)).trackTurnaround p =
      s.setPort p (heardLevel (s.port p) l) := trackTurnaround_of_none hturn _
  have hsends : (heardLevel (s.port p) l).tx = some x := htx
  cases l with
  | space =>
    show execSampleAtSpace p s = _
    unfold execSampleAtSpace
    simp only [hheard, port_setPort, hsends]
  | mark =>
    show execSampleAtMark p s = _
    unfold execSampleAtMark
    simp only [hheard, port_setPort, hsends]

end ReadBack

/-- Settles O9: the mismatch ends the transaction, and a sample that completes one is that mismatch. -/
theorem branchLineFaultEndsTransaction : Obligations.BranchLineFaultEndsTransaction := by
  intro s x phase q htx htxn
  refine ⟨by rw [exec_branchLineFault htx, lineFaults_eq htxn], fun l hphase hlevel => ?_⟩
  have hturn (n : Nat) : s.txn ≠ .turnaround n := by simp [htxn]
  rw [exec_sampleAt_sending (p := .branch) htx (fun _ => hturn), readBack_mismatch ⟨hphase, hlevel⟩]
  exact (exec_branchLineFault (s := { s with branch := heardLevel s.branch l }) htx).symm

/-- Settles O15: a collision by the owner of the transmission; a sample by whether it mismatches, and by the
place in the transmission that it reaches. -/
theorem collisionKeepsTelegramAndNotice : Obligations.CollisionKeepsTelegramAndNotice := by
  refine ⟨fun s x htx => ⟨fun howner => ?_, fun howner => ?_, fun l hphase hlevel => ?_⟩, ?_⟩
  · rw [exec_collision htx, collide_listHead howner]
  · rw [exec_collision htx, collide_notice howner]
  · rw [exec_sampleAt_sending (p := .trunk) htx (fun h => nomatch h), readBack_mismatch ⟨hphase, hlevel⟩]
    exact (exec_collision (s := { s with trunk := heardLevel s.trunk l }) htx).symm
  · intro s p x l htx hturn hagree heard length
    have hexec := exec_sampleAt_sending htx hturn l
    rw [readBack_agrees (fun h => h.2 (hagree h.1)), samples_eq] at hexec
    rw [hexec]
    refine ⟨fun hlast hbreak => ?_, fun hlast hp => ?_, fun q hlast hp htxn => ?_,
      fun q hlast hlength hbreak hp htxn => ?_⟩
    · rw [if_neg hlast, if_neg hbreak, setPort_setPort, port_setPort]
      rfl
    · subst hp
      rw [if_pos hlast]
      exact (exec_trunkTransmissionComplete (s := heard) htx).symm
    · subst hp
      rw [if_pos hlast]
      exact (exec_branchTransmissionComplete (s := heard) htx htxn).symm
    · subst hp
      rw [if_neg (by omega), if_pos ⟨rfl, hbreak, hlast⟩, exec_breakEnd (s := heard) htxn]
      have hplace : { x.advanced l with elapsed := 704 } = { x with elapsed := 704 } := by
        simp [Transmission.advanced, show x.elapsed = 703 by omega]
      rw [endBreak_eq (s := heard) htx htxn, ← hplace, setPort_setPort, port_setPort]
      exact congrArg Host.Outcome.next (endBreak_eq (x := x.advanced l) rfl htxn)

/-! ### The line-idle event (R139, R140) -/

/-- Without settings to apply the event holds the line idle condition and does nothing more. -/
theorem lineIdleTaken_plain {s : State} {p : PortId} (h : s.staged.replyLeft = false ∨
    (p = .trunk ∧ s.staged.trunk = none) ∨ (p = .branch ∧ s.staged.branch = none)) :
    lineIdleTaken s p = s.setPort p (portIdle (s.port p)) := by
  unfold lineIdleTaken
  split
  · simp_all
  · simp_all
  · rfl

theorem lineIdleTaken_trunk {s : State} {q : PortSettings} (hleft : s.staged.replyLeft = true)
    (hq : s.staged.trunk = some q) : lineIdleTaken s .trunk = { s with
      trunk := portResettled s.trunk q, staged := { s.staged with trunk := none } } := by
  unfold lineIdleTaken
  rw [hleft, hq]

theorem lineIdleTaken_branch {s : State} {q : PortSettings} {ms : Nat} (hleft : s.staged.replyLeft = true)
    (hq : s.staged.branch = some (q, ms)) : lineIdleTaken s .branch = answerSpoilt { s with
      branch := portResettled s.branch q, responseTimeout := ms,
      staged := { s.staged with branch := none } } := by
  unfold lineIdleTaken
  rw [hleft, hq]

/-- Settles O11: the event, by the settings staged for the port. -/
theorem lineIdleEventHoldsAndApplies : Obligations.LineIdleEventHoldsAndApplies := by
  intro s p htx hidle
  have hexec : exec (.lineIdleEvent p) s = .next (lineIdleTaken s p) := by
    rw [exec_lineIdleEvent s p htx hidle, lineIdles_eq]
  refine ⟨fun hplain => ?_, fun q hleft hp hq => ?_, fun q ms hleft hp hq => ?_, hexec⟩
  · rw [hexec, lineIdleTaken_plain hplain]
  · subst hp
    rw [hexec, lineIdleTaken_trunk hleft hq]
  · subst hp
    rw [hexec, lineIdleTaken_branch hleft hq]

end Sys2Proof.Machine
end

section
/-! SET-PORTS (O37). -/

namespace Sys2Proof.Machine

/-! ### The arguments of SET-PORTS (R171, R176, R179) -/

/-- Widths of the arguments of SET-PORTS (R179). -/
def portsWidths : List Nat := [1, 1, 1, 1, 2, 1, 1, 1, 1]

theorem polarityOf_lt {n : Nat} {x : Polarity} (h : polarityOf n = some x) : n < 2 := by
  match n, h with
  | 0, _ => decide
  | 1, _ => decide

/-- The polarity of a marker. -/
def polarityFor (inverted : Bool) : Polarity := if inverted then .inverted else .normal

theorem polarityOf_markerByte (b : Bool) : polarityOf (markerByte b).toNat = some (polarityFor b) := by
  cases b <;> rfl

/-- What is asked for has polarities and a notices marker inside their encodings. -/
theorem requestedPorts_encoded {f : List Nat} {req : PortsRequest} (h : requestedPorts f = some req) :
    fieldOr f 1 255 < 2 ∧ fieldOr f 3 255 < 2 ∧ fieldOr f 8 255 < 2 := by
  unfold requestedPorts at h
  split at h
  · rename_i htrunk hbranch hnotices
    exact ⟨polarityOf_lt htrunk, polarityOf_lt hbranch, markerOf_lt hnotices⟩
  · cases h

theorem serveSetPorts_malformed {args : List Byte} (u : State)
    (h : args.length ≠ 10 ∨ 2 ≤ argument args 1 ∨ 2 ≤ argument args 3 ∨ 2 ≤ argument args 9) :
    serveSetPorts args u = .refuse u .malformed := by
  have hnone : (parseLayout portsWidths 9 args).bind requestedPorts = none := by
    rw [Option.bind_eq_none_iff]
    intro f hp
    obtain ⟨hrequired, hfields, hlength⟩ := parseLayout_length hp
    have hnine : f.length = 9 := Nat.le_antisymm hfields hrequired
    have h1 : fieldOr f 1 255 = argument args 1 := fieldOr_byte hp (by omega) rfl rfl
    have h3 : fieldOr f 3 255 = argument args 3 := fieldOr_byte hp (by omega) rfl rfl
    have h9 : fieldOr f 8 255 = argument args 9 := fieldOr_byte hp (by omega) rfl rfl
    by_contra hsome
    obtain ⟨req, hreq⟩ := Option.ne_none_iff_exists'.mp hsome
    obtain ⟨htrunk, hbranch, hnotices⟩ := requestedPorts_encoded hreq
    rw [hnine] at hlength
    have hten : args.length = 10 := hlength
    omega
  unfold serveSetPorts
  rw [show parseLayout [1, 1, 1, 1, 2, 1, 1, 1, 1] 9 args = parseLayout portsWidths 9 args from rfl, hnone]

theorem splitFields_byte {ws : List Nat} {rest : List Byte} (b : Byte) :
    splitFields (1 :: ws) (b :: rest) = (splitFields ws rest).map (b.toNat :: ·) := by
  rw [show b :: rest = [b] ++ rest from rfl, splitFields_append (w := 1) rfl (by omega), beNat_singleton]

section Asked
variable (d1 d2 debounce release moderation : Byte) (p1 p2 on : Bool) (timeout : Nat)

/-- What a SET-PORTS with these arguments asks for. -/
def askedPorts : PortsRequest where
  trunk := { divisor := d1.toNat, polarity := polarityFor p1 }
  branch := { divisor := d2.toNat, polarity := polarityFor p2 }
  responseTimeout := timeout
  globals := { contactDebounce := debounce.toNat, plantTripRelease := release.toNat,
               moderation := moderation.toNat, noticesOn := on }

/-- The arguments of a SET-PORTS, its markers as bytes (R179). -/
def portsArgs : List Byte :=
  [d1, markerByte p1, d2, markerByte p2] ++ be16 timeout ++ [debounce, release, moderation, markerByte on]

theorem parseLayout_portsArgs (htimeout : timeout < 65536) :
    parseLayout portsWidths 9 (portsArgs d1 d2 debounce release moderation p1 p2 on timeout) =
      some [d1.toNat, (markerByte p1).toNat, d2.toNat, (markerByte p2).toNat, timeout, debounce.toNat,
        release.toNat, moderation.toNat, (markerByte on).toNat] := by
  have hend : splitFields [] [] = some [] := rfl
  rw [parseLayout_eq_some]
  refine ⟨?_, by simp⟩
  simp only [portsArgs, portsWidths, List.cons_append, List.nil_append, splitFields_byte,
    splitFields_be16 htimeout, hend, Option.map_some]

theorem requested_portsArgs (htimeout : timeout < 65536) :
    (parseLayout portsWidths 9 (portsArgs d1 d2 debounce release moderation p1 p2 on timeout)).bind
      requestedPorts = some (askedPorts d1 d2 debounce release moderation p1 p2 on timeout) := by
  rw [parseLayout_portsArgs _ _ _ _ _ _ _ _ _ htimeout, Option.bind_some]
  simp only [requestedPorts, fieldOr, List.getD_cons_zero, List.getD_cons_succ, polarityOf_markerByte,
    markerOf_markerByte]
  rfl

end Asked

/-! ### Clamping (R137, R172, R176) -/

theorem clampNat_eq_self {lo hi n : Nat} (h : lo ≤ hi) : clampNat lo hi n = n ↔ lo ≤ n ∧ n ≤ hi := by
  rw [clampNat_eq h]
  omega

theorem clampPorts_eq (req : PortsRequest) : clampPorts req = { req with
    responseTimeout := withinNat 5 500 req.responseTimeout
    globals := { contactDebounce := withinNat 2 16 req.globals.contactDebounce
                 plantTripRelease := withinNat 1 60 req.globals.plantTripRelease
                 moderation := withinNat 1 60 req.globals.moderation
                 noticesOn := req.globals.noticesOn } } := by
  simp only [clampPorts, clampNat_withinNat (show 5 ≤ 500 by omega), clampNat_withinNat (show 2 ≤ 16 by omega),
    clampNat_withinNat (show 1 ≤ 60 by omega)]

theorem clampPorts_eq_self (req : PortsRequest) : clampPorts req = req ↔
    5 ≤ req.responseTimeout ∧ req.responseTimeout ≤ 500 ∧
      2 ≤ req.globals.contactDebounce ∧ req.globals.contactDebounce ≤ 16 ∧
      1 ≤ req.globals.plantTripRelease ∧ req.globals.plantTripRelease ≤ 60 ∧
      1 ≤ req.globals.moderation ∧ req.globals.moderation ≤ 60 := by
  obtain ⟨trunk, branch, timeout, debounce, release, moderation, on⟩ := req
  simp [clampPorts, clampNat_eq_self, and_assoc]

/-! ### What is staged (R139) -/

theorem serveSetPorts_asked {args : List Byte} {req : PortsRequest}
    (hargs : (parseLayout portsWidths 9 args).bind requestedPorts = some req) (u : State) :
    serveSetPorts args u =
      { state := u.stagePorts (clampPorts req), result := some (acceptedIf (decide (clampPorts req ≠ req))),
        data := [], role := .setPorts } := by
  unfold serveSetPorts
  rw [show parseLayout [1, 1, 1, 1, 2, 1, 1, 1, 1] 9 args = parseLayout portsWidths 9 args from rfl, hargs]

/-- The reply fills the place that the request has reserved, behind the telegrams that stand. -/
theorem stagePorts_replied (s : State) (req : PortsRequest) (t : OutTelegram) :
    (s.reservePlace.stagePorts req).fillReserved t = { s with
      staged := { trunk := some req.trunk, branch := some (req.branch, req.responseTimeout),
                  globals := some req.globals, replyLeft := false },
      trunkOut := { reserved := s.trunkOut.reserved,
                    filled := s.trunkOut.filled.map OutTelegram.supersede ++ [t] } } := rfl

/-- A SET-PORTS that asks for settings stages them clamped, for the departure of its reply (R139, R176). -/
theorem exec_setPorts_asked {s : State} {src : Byte} {args : List Byte} {req : PortsRequest}
    (hs : s.takesRequests) (hargs : (parseLayout portsWidths 9 args).bind requestedPorts = some req) :
    exec (.setPorts src args) s = .next { s with
      staged := { trunk := some (clampPorts req).trunk,
                  branch := some ((clampPorts req).branch, (clampPorts req).responseTimeout),
                  globals := some (clampPorts req).globals, replyLeft := false },
      trunkOut := {
        reserved := s.trunkOut.reserved,
        filled := s.trunkOut.filled.map OutTelegram.supersede ++
          [{ telegram := s.replyTo src 0x0A#8 (acceptedIf (decide (clampPorts req ≠ req))).code [],
             role := .setPorts }] } } := by
  refine congrArg Host.Outcome.next ((State.takeAdmin_served s src 0x0A#8 true (serveSetPorts args) hs.1
    hs.2.1 (Or.inr hs.2.2)).trans ?_)
  rw [serveSetPorts_asked hargs]
  exact stagePorts_replied s (clampPorts req) _

/-- Settles O37: a request that is malformed, and one that is asked whole. -/
theorem setPortsStagesItsSettings : Obligations.SetPortsStagesItsSettings := by
  intro s src d1 d2 debounce release moderation p1 p2 on timeout hs htimeout polarity marker fits
  refine ⟨fun args hbad => congrArg Host.Outcome.next
    (takeAdmin_refused (r := .malformed) hs (serveSetPorts_malformed _ hbad)), ?_⟩
  have hstaged := exec_setPorts_asked (src := src) hs
    (requested_portsArgs d1 d2 debounce release moderation p1 p2 on timeout htimeout)
  have hcode := acceptedIf_code (q := fits) (not_congr
    (clampPorts_eq_self (askedPorts d1 d2 debounce release moderation p1 p2 on timeout)))
  rw [hcode, clampPorts_eq] at hstaged
  exact hstaged

end Sys2Proof.Machine
end

section
/-! The number encodings and codes of the replies, and the walk of a table (R178, R179; O41). -/

namespace Sys2Proof.Machine

/-! ### Numbers and bits in bytes (R179) -/

section Encodings

theorem be16_toNat (w : BitVec 16) : be16 w.toNat = [w.extractLsb' 8 8, w.extractLsb' 0 8] := by
  have hhigh : BitVec.ofNat 8 (w.toNat / 256) = w.extractLsb' 8 8 :=
    BitVec.eq_of_toNat_eq (by simp [Nat.shiftRight_eq_div_pow])
  have hlow : BitVec.ofNat 8 w.toNat = w.extractLsb' 0 8 := BitVec.eq_of_toNat_eq (by simp)
  rw [be16, hhigh, hlow]

theorem be32_toNat (w : BitVec 32) : be32 w.toNat =
    [w.extractLsb' 24 8, w.extractLsb' 16 8, w.extractLsb' 8 8, w.extractLsb' 0 8] := by
  have hbyte (k : Nat) : BitVec.ofNat 8 (w.toNat / 2 ^ k) = w.extractLsb' k 8 :=
    BitVec.eq_of_toNat_eq (by simp [Nat.shiftRight_eq_div_pow])
  have h24 : w.toNat / 65536 / 256 = w.toNat / 2 ^ 24 := by omega
  rw [← hbyte 24, ← hbyte 16, ← hbyte 8, ← hbyte 0, ← h24]
  simp [be32, be16]

theorem be16s_toInt (w : BitVec 16) : be16s w.toInt = be16 w.toNat := by
  have hnumber : (w.toInt % 65536).toNat = w.toNat := by
    have hlt := w.isLt
    rw [BitVec.toInt_eq_toNat_cond]
    split <;> omega
  rw [be16s, hnumber]

/-- The two bytes of a number are those of its low 16 bits. -/
theorem be16_ofNat (n : Nat) : be16 (BitVec.ofNat 16 n).toNat = be16 n := by
  have hhigh : BitVec.ofNat 8 (n % 65536 / 256) = BitVec.ofNat 8 (n / 256) :=
    BitVec.eq_of_toNat_eq (by simp only [BitVec.toNat_ofNat]; omega)
  have hlow : BitVec.ofNat 8 (n % 65536) = BitVec.ofNat 8 n :=
    BitVec.eq_of_toNat_eq (by simp only [BitVec.toNat_ofNat]; omega)
  rw [BitVec.toNat_ofNat, be16, be16, hhigh, hlow]

theorem bitIf_eq_mul (b : Bool) (w : Nat) : bitIf b w = w * bitIf b 1 := by cases b <;> simp [bitIf]

/-- A mask of five bits, by their weights. -/
theorem maskOf_five (a b c d e : Bool) : maskOf [a, b, c, d, e] =
    bitIf a 1 + bitIf b 2 + bitIf c 4 + bitIf d 8 + bitIf e 16 := by
  rw [bitIf_eq_mul b 2, bitIf_eq_mul c 4, bitIf_eq_mul d 8, bitIf_eq_mul e 16]
  simp only [maskOf, List.foldr_cons, List.foldr_nil]
  omega

/-- A mask of eight bits, by their weights. -/
theorem maskOf_eight (a b c d e f g h : Bool) : maskOf [a, b, c, d, e, f, g, h] =
    bitIf a 1 + bitIf b 2 + bitIf c 4 + bitIf d 8 + bitIf e 16 + bitIf f 32 + bitIf g 64 + bitIf h 128 := by
  rw [bitIf_eq_mul b 2, bitIf_eq_mul c 4, bitIf_eq_mul d 8, bitIf_eq_mul e 16, bitIf_eq_mul f 32,
    bitIf_eq_mul g 64, bitIf_eq_mul h 128]
  simp only [maskOf, List.foldr_cons, List.foldr_nil]
  omega

/-- Bit `c` of a mask word tells of entry `c`. -/
theorem tells_maskOf {α : Type} (entries : List α) {test : α → Bool} {p : α → Prop}
    (h : ∀ x, test x = true ↔ p x) : tells (BitVec.ofNat 16 (maskOf (entries.map test))) entries p := by
  intro c hc
  rw [BitVec.getLsbD_ofNat, testBit_maskOf, List.getD_eq_getElem?_getD, List.getElem?_map]
  cases entries[c]? <;> simp [hc, h]

end Encodings

/-! ### The walk of a table (R178) -/

section Walk
variable {α : Type} (start : Nat) (table : List (Option α))

theorem mem_occupiedFrom {i : Nat} {x : α} :
    (i, x) ∈ occupiedFrom start table ↔ start ≤ i ∧ table[i]? = some (some x) := by
  simp [occupiedFrom, List.mem_zipIdx_iff_getElem?, and_comm]

theorem occupiedFrom_ascends : (occupiedFrom start table).Pairwise (fun a b => a.1 < b.1) := by
  have hzip : table.zipIdx.Pairwise (fun a b => a.2 < b.2) := by
    rw [← List.pairwise_map, List.zipIdx_map_snd]
    exact List.pairwise_lt_range' ..
  refine List.Pairwise.filter _ (hzip.filterMap _ fun a b hlt x hx y hy => ?_)
  obtain ⟨_, _, rfl⟩ := Option.map_eq_some_iff.mp hx
  obtain ⟨_, _, rfl⟩ := Option.map_eq_some_iff.mp hy
  exact hlt

theorem occupiedFrom_walked : walked start table (occupiedFrom start table) :=
  ⟨occupiedFrom_ascends start table, fun _ _ => mem_occupiedFrom start table⟩

/-- The index after the last entry reported. -/
theorem nextIndex_eq {count : Nat} (hcount : 0 < count) (found : List (Nat × α)) :
    nextIndex count found = if found.length ≤ count then 255
      else match found[count - 1]? with | some q => q.1 + 1 | none => 255 := by
  unfold nextIndex
  by_cases hlast : found.length ≤ count
  · rw [if_pos hlast, if_pos hlast]
  · have hlen : (found.take count).length = count := List.length_take_of_le (by omega)
    rw [if_neg hlast, if_neg hlast, List.getLast?_eq_getElem?, hlen, List.getElem?_take_of_lt (by omega)]
    cases found[count - 1]? <;> rfl

theorem walkLayout_eq {count : Nat} (hcount : 0 < count) {bytes layout : Nat × α → List Byte}
    (h : ∀ q, bytes q = layout q) (found : List (Nat × α)) :
    byteOf (nextIndex count found) ++ byteOf (found.take count).length ++ (found.take count).flatMap bytes =
      walkLayout count layout found := by
  rw [nextIndex_eq hcount, List.length_take, funext h]
  rfl

end Walk

/-! ### The layouts of the replies (R178, R179) -/

section Layouts
variable (s : State)

/-! One spelling of the bytes of a layout: its fields one after the other. -/

theorem bytesOf_nil : bytesOf [] = [] := rfl

theorem bytesOf_cons (n : Nat) (ns : List Nat) : bytesOf (n :: ns) = byteOf n ++ bytesOf ns := rfl

theorem signedFields_nil : signedFields [] = [] := rfl

theorem signedFields_cons (v : Option Int) (vs : List (Option Int)) :
    signedFields (v :: vs) = be16sOr0 v ++ signedFields vs := rfl

theorem byteOf_ownAddress : byteOf s.ownAddress.toNat = [s.ownAddress] := by simp [byteOf]

theorem timerCode_eq (b : ContactBlock) :
    b.timerCode = if b.releaseTimer = none then 0 else if b.driven then 2 else 1 := by
  unfold ContactBlock.timerCode
  cases b.releaseTimer <;> rfl

/-- The word of latched coils in a STATUS reply. -/
def State.latchedWord : BitVec 16 := BitVec.ofNat 16 (maskOf (s.coils.map (fun k => k.state.latched)))

/-- The word of coils in service. -/
def State.inServiceWord : BitVec 16 := BitVec.ofNat 16 (maskOf (s.coils.map (fun k => k.state != .offline)))

/-- The word of inputs that read OPEN. -/
def State.openedWord : BitVec 16 :=
  BitVec.ofNat 16 (maskOf (s.contacts.inputs.map (fun i => s.contacts.settled && i.debounced == .opened)))

theorem latchedWord_tells : tells s.latchedWord s.coils (fun k => k.state = .trip ∨ k.state = .lockout) :=
  tells_maskOf s.coils fun k => latched_iff k.state

theorem inServiceWord_tells : tells s.inServiceWord s.coils (fun k => k.state ≠ .offline) :=
  tells_maskOf s.coils fun _ => bne_iff_ne

theorem openedWord_tells : tells s.openedWord s.contacts.inputs
    (fun x => s.contacts.settled = true ∧ x.debounced = .opened) :=
  tells_maskOf s.contacts.inputs fun i => by simp

theorem statusData_eq : s.statusData =
    statusLayout s s.latchedWord s.inServiceWord s.openedWord s.trunkOut.reserved := by
  unfold State.statusData statusLayout State.latchedWord State.inServiceWord State.openedWord
  simp only [bytesOf_cons, bytesOf_nil, List.flatMap_cons, List.flatMap_nil, be16_ofNat, byteOf_ownAddress,
    timerCode_eq, List.append_assoc, List.append_nil]

theorem detailRuntime_eq (c : CoilId) (k : Coil) : detailRuntime c k = runtimeLayout c k := by
  unfold detailRuntime runtimeLayout
  simp only [maskOf_five, bytesOf_cons, bytesOf_nil, signedFields_cons, signedFields_nil, List.flatMap_cons,
    List.flatMap_nil, List.append_assoc, List.append_nil]

theorem detailHistories_eq (c : CoilId) (k : Coil) : detailHistories c k = historiesLayout c k := by
  unfold detailHistories historiesLayout
  simp only [padTo, Config.ringCapacity, Config.tripHistoryCapacity, bytesOf_cons, bytesOf_nil,
    List.append_assoc, List.append_nil]

theorem configBlock_eq (k : CoilConfig) (enabled : Bool) : configBlock k enabled = configLayout k enabled := by
  unfold configBlock configLayout
  simp only [bytesOf_cons, bytesOf_nil, List.flatMap_cons, List.flatMap_nil, List.append_assoc, List.append_nil]

theorem detailConfig_eq (c : CoilId) (k : Coil) :
    detailConfig c k = bytesOf [c.val, 2] ++ configLayout k.cfg k.enabled := by
  rw [detailConfig, configBlock_eq, bytesOf_cons, bytesOf_cons, bytesOf_nil, List.append_nil]

theorem sinceField_eq (clock : Nat) (time : Option Nat) : sinceField clock time = sinceLayout clock time := by
  cases time <;> rfl

theorem pointBytes_eq (clock : Nat) (q : Nat × PointEntry) : pointBytes clock q = pointLayout clock q := by
  unfold pointBytes pointLayout
  simp only [maskOf_five, sinceField_eq, bytesOf_cons, bytesOf_nil, signedFields_cons, signedFields_nil,
    List.append_assoc, List.append_nil]

theorem recordBytes_eq (q : Nat × ActuatorRecord) : recordBytes q = recordLayout q := by
  unfold recordBytes recordLayout
  simp only [maskOf_eight, bytesOf_cons, bytesOf_nil, signedFields_cons, signedFields_nil, List.append_assoc,
    List.append_nil]

end Layouts

/-! ### The lengths of the layouts (R179) -/

section Lengths

theorem bytesOf_length (ns : List Nat) : (bytesOf ns).length = ns.length := List.length_map _

theorem be16_length (n : Nat) : (be16 n).length = 2 := rfl

theorem be16s_length (z : Int) : (be16s z).length = 2 := rfl

theorem be32_length (n : Nat) : (be32 n).length = 4 := rfl

theorem signedFields_length (vs : List (Option Int)) : (signedFields vs).length = 2 * vs.length :=
  length_flatMap_of_length (f := fun v : Option Int => be16s (v.getD 0)) (fun _ => rfl) vs

theorem statusLayout_length (s : State) (latched inService opened : BitVec 16) (reserved : Nat) :
    (statusLayout s latched inService opened reserved).length = 21 := by
  simp [statusLayout, bytesOf_length, be16_length, be32_length]

theorem runtimeLayout_length (c : CoilId) (k : Coil) : (runtimeLayout c k).length = 32 := by
  simp [runtimeLayout, bytesOf_length, be16_length, be32_length, signedFields_length]

theorem historiesLayout_length (c : CoilId) (k : Coil) : (historiesLayout c k).length = 36 := by
  have hring := length_flatMap_of_length be16s_length ((k.eval.ring ++ List.replicate 8 0).take 8)
  have hhistory := length_flatMap_of_length be32_length ((k.tripHistory ++ List.replicate 4 0).take 4)
  simp only [historiesLayout, List.length_append, hring, hhistory, bytesOf_length, List.length_take,
    List.length_replicate, List.length_cons, List.length_nil]
  omega

theorem configLayout_length (k : CoilConfig) (enabled : Bool) : (configLayout k enabled).length = 41 := by
  simp [configLayout, bytesOf_length, be16_length, be16s_length, be32_length]

end Lengths

end Sys2Proof.Machine
end

section
/-! The reads: STATUS, READ-COUNTERS, COIL-DETAIL, READ-POINTS and READ-ACTUATOR (O41). -/

namespace Sys2Proof.Machine

/-! ### The arguments of the reads (R171, R177, R178) -/

section Arguments
variable {args : List Byte}

theorem parseOneByte (b : Byte) : parseLayout [1] 1 [b] = some [b.toNat] := by
  simp [parseLayout, splitFields, beNat_singleton]

/-- A clear marker is at most one byte, 0 or 1. -/
theorem clearArgument_malformed (h : 2 ≤ args.length ∨ 2 ≤ argument args 0) : clearArgument args = none := by
  unfold clearArgument
  split
  · rename_i hp
    have hlen : args.length = 0 := (parseLayout_length hp).2.2
    obtain rfl := List.length_eq_zero_iff.mp hlen
    rcases h with h | h <;> cases h
  · rename_i n hp
    have hlen : args.length = 1 := (parseLayout_length hp).2.2
    have hn : n = argument args 0 := fieldOr_byte (d := 0) hp (i := 0) (by simp) rfl rfl
    by_contra hsome
    obtain ⟨b, hb⟩ := Option.ne_none_iff_exists'.mp hsome
    have := markerOf_lt hb
    omega
  · rfl

end Arguments

/-! ### What the reads serve (R150, R177, R178) -/

section Serve
variable (s : State) {args : List Byte}

theorem serveStatus_malformed (h : 2 ≤ args.length ∨ 2 ≤ argument args 0) :
    serveStatus args s = .refuse s .malformed := by
  unfold serveStatus
  rw [clearArgument_malformed h]

theorem serveReadCounters_malformed (h : 2 ≤ args.length ∨ 2 ≤ argument args 0) :
    serveReadCounters args s = .refuse s .malformed := by
  unfold serveReadCounters
  rw [clearArgument_malformed h]

/-- The sections of COIL-DETAIL, with their data and its length (R179). -/
def State.detailParts (c : CoilId) : List (Nat × List Byte × Nat) :=
  [(0, runtimeLayout c (s.coil c), 32), (1, historiesLayout c (s.coil c), 36),
    (2, bytesOf [c.val, 2] ++ configLayout (s.coil c).cfg (s.coil c).enabled, 43)]

theorem State.detailParts_length (c : CoilId) : ∀ part ∈ s.detailParts c, part.2.1.length = part.2.2 := by
  simp only [State.detailParts, List.forall_mem_cons]
  refine ⟨runtimeLayout_length .., historiesLayout_length .., ?_, fun _ h => nomatch h⟩
  rw [List.length_append, configLayout_length, bytesOf_length]
  rfl

theorem serveCoilDetail_part (c : CoilId) :
    ∀ part ∈ s.detailParts c, serveCoilDetail (bytesOf [c.val, part.1]) s = .reply s part.2.1 := by
  have hargs {n : Nat} (hn : n < 256) : parseLayout [1, 1] 2 (bytesOf [c.val, n]) = some [c.val, n] := by
    rw [show bytesOf [c.val, n] = [BitVec.ofNat 8 c.val, BitVec.ofNat 8 n] from rfl, parseTwoBytes,
      toNat_byte (by omega), toNat_byte hn]
  simp only [State.detailParts, List.forall_mem_cons]
  refine ⟨?_, ?_, ?_, fun _ h => nomatch h⟩ <;> unfold serveCoilDetail
  · rw [hargs (by decide), ← detailRuntime_eq]
    simp only [coilOf_val]
  · rw [hargs (by decide), ← detailHistories_eq]
    simp only [coilOf_val]
  · rw [hargs (by decide), ← detailConfig_eq]
    simp only [coilOf_val]

theorem serveCoilDetail_malformed (h : args.length ≠ 2 ∨ 16 ≤ argument args 0 ∨ 3 ≤ argument args 1) :
    serveCoilDetail args s = .refuse s .malformed := by
  unfold serveCoilDetail
  split
  · rename_i number part hp
    have hlen : args.length = 2 := (parseLayout_length hp).2.2
    have hnumber : number = argument args 0 := fieldOr_byte (d := 0) hp (i := 0) (by simp) rfl rfl
    have hpart : part = argument args 1 := fieldOr_byte (d := 0) hp (i := 1) (by simp) rfl rfl
    split
    · have := coilOf_lt ‹_›; omega
    · have := coilOf_lt ‹_›; omega
    · have := coilOf_lt ‹_›; omega
    · rfl
  · rfl

/-- A start index inside the table is one byte. -/
theorem startArgument_malformed {bound : Nat} (h : args.length ≠ 1 ∨ bound ≤ argument args 0) {start : Nat}
    (hp : parseLayout [1] 1 args = some [start]) : ¬ start < bound := by
  have hlen : args.length = 1 := (parseLayout_length hp).2.2
  have hstart : start = argument args 0 := fieldOr_byte (d := 0) hp (i := 0) (by simp) rfl rfl
  omega

theorem serveReadPoints_malformed (h : args.length ≠ 1 ∨ 96 ≤ argument args 0) :
    serveReadPoints args s = .refuse s .malformed := by
  unfold serveReadPoints
  split
  · exact if_neg (startArgument_malformed h ‹_›)
  · rfl

theorem serveReadActuator_malformed (h : args.length ≠ 1 ∨ 48 ≤ argument args 0) :
    serveReadActuator args s = .refuse s .malformed := by
  unfold serveReadActuator
  split
  · exact if_neg (startArgument_malformed h ‹_›)
  · rfl

theorem serveReadPoints_start {start : Byte} (h : start.toNat < 96) : serveReadPoints [start] s =
    .reply s (walkLayout 2 (pointLayout s.plantClock) (occupiedFrom start.toNat s.points)) := by
  unfold serveReadPoints
  rw [parseOneByte, ← walkLayout_eq (by omega) (pointBytes_eq s.plantClock)]
  exact if_pos h

theorem serveReadActuator_start {start : Byte} (h : start.toNat < 48) : serveReadActuator [start] s =
    .reply s (walkLayout 1 recordLayout (occupiedFrom start.toNat s.records)) := by
  unfold serveReadActuator
  rw [parseOneByte, ← walkLayout_eq (by omega) recordBytes_eq]
  exact if_pos h

end Serve

/-! ### How a read is answered (R171, R174) -/

section Answered
variable {s : State} {src code : Byte} {serve : State → Served}
  (hroom : s.trunkOut.canReserve = true) (hrestart : s.restartPending = false)

include hroom hrestart

theorem answered_read {t : State} {data : List Byte}
    (hserve : serve s.reservePlace = .reply t.reservePlace data) (hstraps : t.straps = s.straps) :
    (Host.Outcome.next (s.takeAdmin src code false serve) : Host.Outcome State Fault Refusal) =
      .next (t.replied src code 0x00#8 data) :=
  congrArg Host.Outcome.next (takeAdmin_answered hroom hrestart (Or.inl rfl) hserve hstraps)

theorem answered_malformed (hserve : serve s.reservePlace = .refuse s.reservePlace .malformed) :
    (Host.Outcome.next (s.takeAdmin src code false serve) : Host.Outcome State Fault Refusal) =
      .next (s.replied src code 0x13#8 []) :=
  congrArg Host.Outcome.next (takeAdmin_answered hroom hrestart (Or.inl rfl) hserve rfl)

end Answered

/-! ### STATUS and READ-COUNTERS, as commands (R150, R177) -/

section Commands
variable {s : State} {src : Byte} (hroom : s.trunkOut.canReserve = true) (hrestart : s.restartPending = false)
  {args : List Byte} {clear : Bool} (hargs : clearArgument args = some clear)

include hroom hrestart hargs

/-- STATUS reports its own place among the reserved ones (log 14). -/
theorem exec_status : exec (.status src args) s = .next ((if clear then s.clearSticky else s).replied src
    0x0B#8 0x00#8 (statusLayout s s.latchedWord s.inServiceWord s.openedWord (s.trunkOut.reserved + 1))) := by
  refine answered_read hroom hrestart ?_ (by cases clear <;> rfl)
  unfold serveStatus
  rw [hargs, statusData_eq]
  cases clear <;> rfl

theorem exec_readCounters : exec (.readCounters src args) s =
    .next ((if clear then s.clearCounters else s).replied src 0x0C#8 0x00#8 s.counterData) := by
  refine answered_read hroom hrestart ?_ (by cases clear <;> rfl)
  unfold serveReadCounters
  rw [hargs]
  cases clear <;> rfl

end Commands

theorem counterData_length (s : State) : s.counterData.length = 38 :=
  length_flatMap_of_length be16_length _

/-- Settles O41: each read by its layout, its arguments by what they may be, the codes by evaluation. -/
theorem readRequestsReplyWithTheirData : Obligations.ReadRequestsReplyWithTheirData := by
  intro s src hroom hrestart
  have hread {code : Byte} {serve : State → Served} {data : List Byte}
      (h : serve s.reservePlace = .reply s.reservePlace data) :=
    answered_read (src := src) (code := code) hroom hrestart h rfl
  have hmalformed {code : Byte} {serve : State → Served}
      (h : serve s.reservePlace = .refuse s.reservePlace .malformed) :=
    answered_malformed (src := src) (code := code) hroom hrestart h
  refine ⟨⟨s.latchedWord, s.inServiceWord, s.openedWord, statusLayout_length .., latchedWord_tells s,
      inServiceWord_tells s, openedWord_tells s, exec_status (clear := false) hroom hrestart rfl,
      exec_status (clear := true) hroom hrestart rfl⟩,
    ⟨counterData_length s, exec_readCounters (clear := false) hroom hrestart rfl,
      exec_readCounters (clear := true) hroom hrestart rfl⟩,
    fun c part hpart => ⟨s.detailParts_length c part hpart, hread (serveCoilDetail_part _ c part hpart)⟩,
    fun args hbad => hmalformed (serveCoilDetail_malformed _ hbad),
    fun args hbad => ⟨hmalformed (serveStatus_malformed _ hbad), hmalformed (serveReadCounters_malformed _ hbad)⟩,
    fun args hbad => hmalformed (serveReadPoints_malformed _ hbad),
    fun args hbad => hmalformed (serveReadActuator_malformed _ hbad),
    fun start => ⟨fun h => ⟨_, occupiedFrom_walked .., hread (serveReadPoints_start _ h)⟩,
      fun h => ⟨_, occupiedFrom_walked .., hread (serveReadActuator_start _ h)⟩⟩,
    ⟨be16_toNat, be32_toNat, be16s_toInt⟩, ?_⟩
  exact ⟨rfl, rfl, fun _ => rfl, rfl, fun _ => rfl, rfl, rfl, fun _ => rfl, rfl,
    fun _ => ⟨rfl, Nat.add_comm _ _⟩, rfl, fun _ _ => rfl⟩

end Sys2Proof.Machine
end

section
/-! What a management request does to the places of the relay and the trunk output list, said once for all
seventeen: how one is turned away BUSY (O29), and how one that is taken is answered (O30). -/

namespace Sys2Proof.Machine

/-! ### What the law of the places sees (R153 to R155) -/

/-- What the law of the places sees of a state: the entries of the relay queue, the reserved places, the
telegrams in the filled ones and whether one of them is the reply of a RESTART, whether a relayed transaction
is outstanding, a COMMIT in flight, a RESTART pending. -/
structure PlacesView where
  queued : Nat
  reserved : Nat
  filled : List Telegram
  restartReply : Bool
  relayed : Bool
  writing : Bool
  restartPending : Bool

/-- What the law of the places sees of the part as it stands. -/
def State.placesView (s : State) : PlacesView where
  queued := s.relayQueue.length
  reserved := s.trunkOut.reserved
  filled := s.trunkOut.filled.map OutTelegram.telegram
  restartReply := s.trunkOut.filled.any (fun o => o.role == .restart)
  relayed := s.relayedOutstanding
  writing := s.commit.isSome
  restartPending := s.restartPending

/-- Coil protection moves no place. -/
theorem placesView_of_protection {s t : State} (h : sameOutsideProtection s t) : t.placesView = s.placesView := by
  unfold sameOutsideProtection at h
  rw [h]
  rfl

/-- A removed record leaves it open whether its own SET is answered, and no relayed transaction (R15, R99). -/
theorem loseRecord_relayedOutstanding (s : State) (station channel : Nat) :
    (s.withTxn (loseRecord s.txn station channel)).relayedOutstanding = s.relayedOutstanding := by
  unfold State.relayedOutstanding
  cases htxn : s.txn with
  | idle => rfl
  | turnaround n => rfl
  | outstanding phase q => cases ho : q.origin <;> simp [loseRecord, ho]

theorem afterRuleRemoved_placesView (s : State) (station channel : Nat) :
    (s.afterRuleRemoved station channel).placesView = s.placesView := by
  unfold State.afterRuleRemoved
  split
  · rfl
  · exact congrArg (fun b => { s.placesView with relayed := b }) (loseRecord_relayedOutstanding s station channel)

/-- Staged settings change at most the role of an earlier SET-PORTS reply (R139). -/
theorem stagePorts_placesView (s : State) (req : PortsRequest) : (s.stagePorts req).placesView = s.placesView := by
  have htelegram (o : OutTelegram) : o.supersede.telegram = o.telegram := by
    unfold OutTelegram.supersede
    split <;> rfl
  have hrole (o : OutTelegram) : (o.supersede.role == .restart) = (o.role == .restart) := by
    unfold OutTelegram.supersede
    split
    · rename_i h
      rw [h]
      rfl
    · rfl
  have hfilled : (s.trunkOut.filled.map OutTelegram.supersede).map OutTelegram.telegram =
      s.trunkOut.filled.map OutTelegram.telegram := by simp [htelegram]
  have hany : (s.trunkOut.filled.map OutTelegram.supersede).any (fun o => o.role == .restart) =
      s.trunkOut.filled.any (fun o => o.role == .restart) := by simp [hrole, Function.comp_def]
  exact congrArg₂ (fun f b => { s.placesView with filled := f, restartReply := b }) hfilled hany

/-! ### What serving a request can do (R171 to R175) -/

/-- What serving the request of a code can give: a refusal, which changes nothing; an accepted request, which
leaves the places alone; the write of a COMMIT, without a result yet; and a RESTART. -/
inductive ServesRequest (s : State) : Byte → Served → Prop
  | refused {code : Byte} (r : ResultCode) : ServesRequest s code (.refuse s r)
  | accepted {code : Byte} {x : Served} (clamped : Bool) (hresult : x.result = some (acceptedIf clamped))
      (hrole : x.role ≠ .restart) (hview : x.state.placesView = s.placesView) : ServesRequest s code x
  | writes (q : CommitInFlight) (image : Store) : ServesRequest s 0x0D#8
      { state := (s.withCommit (some q)).withStore image, result := none, data := [], role := .plain }
  | restarts : ServesRequest s 0x0E#8
      { state := s.withRestartPending true, result := some .accepted, data := [], role := .restart }

section Serve
variable {s t : State} {code : Byte} (args : List Byte)

theorem ServesRequest.accept {clamped : Bool} (h : t.placesView = s.placesView) :
    ServesRequest s code (.accept t clamped) := .accepted clamped rfl (nofun) h

theorem ServesRequest.reply {data : List Byte} (h : t.placesView = s.placesView) :
    ServesRequest s code (.reply t data) := .accepted false rfl (nofun) h

theorem ServesRequest.loadCoil : ServesRequest s code (serveLoadCoil args s) := by
  unfold serveLoadCoil
  split
  · split
    · split
      · exact .refused _
      · exact .accept rfl
    · exact .refused _
  · exact .refused _

theorem ServesRequest.loadPoint : ServesRequest s code (serveLoadPoint args s) := by
  unfold serveLoadPoint
  split
  · exact .refused _
  · split
    · exact .refused _
    · split
      · exact .refused _
      · split
        · exact .refused _
        · exact .accept rfl

theorem ServesRequest.clearPoint : ServesRequest s code (serveClearPoint args s) := by
  unfold serveClearPoint
  split
  · split
    · exact .refused _
    · split
      · exact .refused _
      · split <;> exact .accept rfl
  · exact .refused _

theorem ServesRequest.loadRule : ServesRequest s code (serveLoadRule args s) := by
  unfold serveLoadRule
  split
  · exact .refused _
  · split
    · exact .refused _
    · split
      · exact .refused _
      · exact .accept rfl

theorem ServesRequest.clearRule : ServesRequest s code (serveClearRule args s) := by
  unfold serveClearRule
  split
  · split
    · split
      · exact .refused _
      · split
        · exact .accept rfl
        · split
          · exact .refused _
          · exact .accept (afterRuleRemoved_placesView _ _ _)
    · exact .refused _
  · exact .refused _

theorem ServesRequest.loadRelaySet : ServesRequest s code (serveLoadRelaySet args s) := by
  unfold serveLoadRelaySet
  dsimp only
  split
  · exact .accept rfl
  · exact .refused _

theorem ServesRequest.enableCoil : ServesRequest s code (serveEnableCoil args s) := by
  unfold serveEnableCoil
  split
  · exact .refused _
  · split
    · exact .accept rfl
    · split
      · exact .refused _
      · exact .accept (placesView_of_protection
          (sameOutsideProtection_trans (State.setCoil_same s _ _) (State.enterStartup_same _ _)))

theorem ServesRequest.disableCoil : ServesRequest s code (serveDisableCoil args s) := by
  unfold serveDisableCoil
  split
  · exact .refused _
  · split
    · exact .refused _
    · split
      · exact .accept rfl
      · exact .accept (placesView_of_protection (State.takeOffline_same s _))

theorem ServesRequest.resetCoil : ServesRequest s code (serveResetCoil args s) := by
  unfold serveResetCoil
  split
  · split
    · split
      · exact .refused _
      · split
        · exact .refused _
        · split
          · exact .refused _
          · exact .accept (placesView_of_protection (State.resetCoil_same s _))
    · exact .refused _
  · exact .refused _

theorem ServesRequest.setPorts : ServesRequest s code (serveSetPorts args s) := by
  unfold serveSetPorts
  split
  · exact .refused _
  · exact .accepted _ rfl (nofun) (stagePorts_placesView s _)

theorem ServesRequest.status : ServesRequest s code (serveStatus args s) := by
  unfold serveStatus
  split
  · exact .refused _
  · exact .reply (by split <;> rfl)

theorem ServesRequest.readCounters : ServesRequest s code (serveReadCounters args s) := by
  unfold serveReadCounters
  split
  · exact .refused _
  · exact .reply (by split <;> rfl)

theorem ServesRequest.commit (src : Byte) : ServesRequest s 0x0D#8 (serveCommit src args s) := by
  unfold serveCommit
  split
  · exact .writes _ _
  · exact .refused _

theorem ServesRequest.restart : ServesRequest s 0x0E#8 (serveRestart args s) := by
  unfold serveRestart
  split
  · exact .restarts
  · exact .refused _

theorem ServesRequest.coilDetail : ServesRequest s code (serveCoilDetail args s) := by
  unfold serveCoilDetail
  split
  · split
    · exact .reply rfl
    · exact .reply rfl
    · exact .reply rfl
    · exact .refused _
  · exact .refused _

theorem ServesRequest.readPoints : ServesRequest s code (serveReadPoints args s) := by
  unfold serveReadPoints
  split
  · split
    · exact .reply rfl
    · exact .refused _
  · exact .refused _

theorem ServesRequest.readActuator : ServesRequest s code (serveReadActuator args s) := by
  unfold serveReadActuator
  split
  · split
    · exact .reply rfl
    · exact .refused _
  · exact .refused _

end Serve

/-! ### The seventeen requests as one (R157, R171, R174) -/

/-- Every ADMIN row is taken as a request of its code, of the class that R174 gives the code. -/
theorem exec_request {i : Instr} {src code : Byte} (h : adminRequest i = some (src, code)) :
    ∃ serve, (∀ s, exec i s = .next (s.takeAdmin src code (refusedDuringCommit code) serve)) ∧
      ∀ s, ServesRequest s code (serve s) := by
  cases i <;> cases h
  case loadCoil args => exact ⟨_, fun _ => rfl, fun _ => .loadCoil args⟩
  case loadPoint args => exact ⟨_, fun _ => rfl, fun _ => .loadPoint args⟩
  case clearPoint args => exact ⟨_, fun _ => rfl, fun _ => .clearPoint args⟩
  case loadRule args => exact ⟨_, fun _ => rfl, fun _ => .loadRule args⟩
  case clearRule args => exact ⟨_, fun _ => rfl, fun _ => .clearRule args⟩
  case loadRelaySet args => exact ⟨_, fun _ => rfl, fun _ => .loadRelaySet args⟩
  case enableCoil args => exact ⟨_, fun _ => rfl, fun _ => .enableCoil args⟩
  case disableCoil args => exact ⟨_, fun _ => rfl, fun _ => .disableCoil args⟩
  case resetCoil args => exact ⟨_, fun _ => rfl, fun _ => .resetCoil args⟩
  case setPorts args => exact ⟨_, fun _ => rfl, fun _ => .setPorts args⟩
  case status args => exact ⟨_, fun _ => rfl, fun _ => .status args⟩
  case readCounters args => exact ⟨_, fun _ => rfl, fun _ => .readCounters args⟩
  case commit args => exact ⟨_, fun _ => rfl, fun _ => .commit args src⟩
  case restart args => exact ⟨_, fun _ => rfl, fun _ => .restart args⟩
  case coilDetail args => exact ⟨_, fun _ => rfl, fun _ => .coilDetail args⟩
  case readPoints args => exact ⟨_, fun _ => rfl, fun _ => .readPoints args⟩
  case readActuator args => exact ⟨_, fun _ => rfl, fun _ => .readActuator args⟩

/-- An ADMIN row is the payload of a management candidate with its code (R157, R179). -/
theorem exec_eq_takeAdminPayload {i : Instr} {src code : Byte} {args : List Byte}
    (h : adminRequest i = some (src, code)) (hargs : adminArgs i = some args) (s : State) :
    exec i s = .next (s.takeAdminPayload src code args) := by
  cases i <;> cases h
  all_goals
    cases hargs
    rfl

/-- Each of the seventeen codes has its row (R179). -/
theorem exists_request {code : Byte} (src : Byte) (args : List Byte) (hlow : 1 ≤ code.toNat)
    (hhigh : code.toNat ≤ 17) : ∃ i : Instr, adminRequest i = some (src, code) ∧ adminArgs i = some args := by
  obtain ⟨n, hn⟩ : ∃ n, code.toNat = n := ⟨_, rfl⟩
  have hcode : code = BitVec.ofNat 8 n := by rw [← hn, BitVec.ofNat_toNat, BitVec.setWidth_eq]
  subst hcode
  rw [hn] at hlow hhigh
  interval_cases n
  · exact ⟨.loadCoil src args, rfl, rfl⟩
  · exact ⟨.loadPoint src args, rfl, rfl⟩
  · exact ⟨.clearPoint src args, rfl, rfl⟩
  · exact ⟨.loadRule src args, rfl, rfl⟩
  · exact ⟨.clearRule src args, rfl, rfl⟩
  · exact ⟨.loadRelaySet src args, rfl, rfl⟩
  · exact ⟨.enableCoil src args, rfl, rfl⟩
  · exact ⟨.disableCoil src args, rfl, rfl⟩
  · exact ⟨.resetCoil src args, rfl, rfl⟩
  · exact ⟨.setPorts src args, rfl, rfl⟩
  · exact ⟨.status src args, rfl, rfl⟩
  · exact ⟨.readCounters src args, rfl, rfl⟩
  · exact ⟨.commit src args, rfl, rfl⟩
  · exact ⟨.restart src args, rfl, rfl⟩
  · exact ⟨.coilDetail src args, rfl, rfl⟩
  · exact ⟨.readPoints src args, rfl, rfl⟩
  · exact ⟨.readActuator src args, rfl, rfl⟩

/-- Any other code is UNKNOWN (R171). -/
theorem takeAdminPayload_unknown {code : Byte} (h : code.toNat = 0 ∨ 17 < code.toNat) (s : State) (src : Byte)
    (args : List Byte) : s.takeAdminPayload src code args = s.takeUnknown src code := by
  unfold State.takeAdminPayload
  split
  case h_18 => rfl
  all_goals omega

/-! ### Room for a reply (R155 to R157) -/

theorem canReserve_iff (l : TrunkOut) :
    l.canReserve = true ↔ l.reserved + l.filled.length < 10 ∧ l.reserved < 7 := by
  unfold TrunkOut.canReserve TrunkOut.hasFree
  rw [Bool.and_eq_true, decide_eq_true_iff, decide_eq_true_iff]
  rfl

section Taken
variable {s : State} {src code : Byte} {gated : Bool} {serve : State → Served}

/-- A request for which no place can be reserved is answered BUSY in a free place, or dropped (R156). -/
theorem takeAdmin_turnedAway (h : ¬ s.trunkOut.canReserve = true) :
    s.takeAdmin src code gated serve = s.fillFreeOrDrop (s.replyTo src code 0x19#8 []) := if_neg h

/-- A request taken while a RESTART is pending, or of a class refused meanwhile while a COMMIT is in flight, is
refused BUSY (R174, R175). -/
theorem takeAdmin_busy (hroom : s.trunkOut.canReserve = true)
    (hbusy : (s.restartPending || (gated && s.commit.isSome)) = true) :
    s.takeAdmin src code gated serve = s.replied src code 0x19#8 [] := by
  unfold State.takeAdmin State.serveAdmin
  rw [if_pos hroom, if_pos (show (s.reservePlace.restartPending ||
    (gated && s.reservePlace.commit.isSome)) = true from hbusy)]
  exact s.reservePlace_fillReserved _

/-- The state after what a request was served: its reply, when one is formed, fills the reserved place (R171). -/
def Served.answered (x : Served) (s : State) (src code : Byte) : State :=
  match x.result with
  | none => x.state
  | some r => x.state.fillReserved { telegram := s.replyTo src code r.code x.data, role := x.role }

/-- A request that finds a place to reserve is refused BUSY, or served. -/
theorem takeAdmin_taken (hroom : s.trunkOut.canReserve = true) :
    s.takeAdmin src code gated serve = s.replied src code 0x19#8 [] ∨
    (s.restartPending = false ∧ (gated = true → s.commit = none) ∧
      s.takeAdmin src code gated serve = (serve s.reservePlace).answered s src code) := by
  by_cases hbusy : (s.restartPending || (gated && s.commit.isSome)) = true
  · exact .inl (takeAdmin_busy hroom hbusy)
  · simp only [Bool.or_eq_true, Bool.and_eq_true, not_or, not_and, Bool.not_eq_true, Option.isSome_eq_false_iff,
      Option.isNone_iff_eq_none] at hbusy
    obtain ⟨hrestart, hcommit⟩ := hbusy
    refine .inr ⟨hrestart, hcommit, ?_⟩
    rw [State.takeAdmin_served s src code gated serve hroom hrestart (by cases gated <;> simp_all)]
    rfl

end Taken

/-- A refusal leaves the request's reply and nothing else. -/
theorem refuse_answered (s : State) (src code : Byte) (r : ResultCode) :
    (Served.refuse s.reservePlace r).answered s src code = s.replied src code r.code [] :=
  s.reservePlace_fillReserved _

/-- Settles O29: without a place to reserve the refusal fills a free place or is dropped; with one, the request
is refused by what stands in its way. -/
theorem requestsTurnedAwayBusy : Obligations.RequestsTurnedAwayBusy := by
  intro i s src code hi
  obtain ⟨serve, hexec, -⟩ := exec_request hi
  have hcannot (h : 7 ≤ s.trunkOut.reserved ∨ 10 ≤ s.trunkOut.reserved + s.trunkOut.filled.length) :
      ¬ s.trunkOut.canReserve = true := by rw [canReserve_iff]; omega
  rw [hexec]
  refine ⟨fun hreserved hfree => ?_, fun hfull => ?_, fun hroom hrestart => ?_, fun hroom hcommit hclass => ?_⟩
  · rw [takeAdmin_turnedAway (hcannot (.inl hreserved)), State.fillFreeOrDrop_eq, if_pos hfree]
    rfl
  · rw [takeAdmin_turnedAway (hcannot (.inr hfull)), State.fillFreeOrDrop_eq, if_neg (by omega)]
  · rw [takeAdmin_busy hroom (by simp [hrestart])]
  · rw [takeAdmin_busy hroom (by simp [hclass, Option.isSome_iff_ne_none.mpr hcommit])]

/-- Settles O30: by what serving the request gave. -/
theorem refusedRequestsChangeNothing : Obligations.RefusedRequestsChangeNothing := by
  intro i s src code hi hroom
  obtain ⟨serve, hexec, hserves⟩ := exec_request hi
  refine ⟨_, hexec s, ?_⟩
  rcases takeAdmin_taken hroom with hbusy | ⟨-, -, hanswered⟩
  · rw [hbusy]
    exact .inr ⟨0x19#8, [], .plain, s.trunkOut.filled, rfl, rfl, fun _ => rfl⟩
  · have hserved := hserves s.reservePlace
    rw [hanswered]
    generalize serve s.reservePlace = x at hserved ⊢
    cases hserved with
    | refused r =>
      rw [refuse_answered]
      exact .inr ⟨r.code, [], .plain, s.trunkOut.filled, rfl, rfl, fun _ => rfl⟩
    | accepted clamped hresult hrole hview =>
      have hfilled : x.state.trunkOut.filled.map OutTelegram.telegram =
        s.trunkOut.filled.map OutTelegram.telegram := congrArg PlacesView.filled hview
      have hlow : ¬ 16 ≤ (acceptedIf clamped).code.toNat := by cases clamped <;> decide
      unfold Served.answered
      rw [hresult]
      exact .inr ⟨_, x.data, x.role, _, rfl, hfilled, fun h => absurd h hlow⟩
    | writes q image => exact .inl ⟨rfl, nofun, rfl⟩
    | restarts => exact .inr ⟨0x00#8, [], .restart, s.trunkOut.filled, rfl, rfl, fun h => absurd h (by decide)⟩

end Sys2Proof.Machine
end

section
/-! The law of the places (O56): every operation of the relay, of the branch transaction, of the trunk output
list and of the management unit keeps it, and so does every step. -/

namespace Sys2Proof.Machine

/-! ### The law in terms of what it sees -/

/-- The law of the places, of what it sees (R153 to R155, R157, R173, R175). -/
structure PlacesView.Law (v : PlacesView) : Prop where
  queue : v.queued ≤ 7
  reserved : v.reserved = v.queued + bitIf v.relayed 1 + bitIf v.writing 1
  limit : v.reserved ≤ 7
  places : v.reserved + v.filled.length ≤ 10
  restart : v.restartPending = true → v.writing = false
  restartReply : v.restartReply = true → v.restartPending = true

theorem placesLaw_iff (s : State) : s.PlacesLaw ↔ s.placesView.Law := by
  have hreply : s.placesView.restartReply = true ↔ ∃ o ∈ s.trunkOut.filled, o.role = .restart := by
    simp [State.placesView]
  constructor
  · rintro ⟨queue, reserved, limit, places, restart, restartReply⟩
    refine ⟨queue, reserved, limit, ?_, fun h => ?_, fun h => ?_⟩
    · simpa [State.placesView] using places
    · simp [State.placesView, restart h]
    · obtain ⟨o, ho, hrole⟩ := hreply.mp h
      exact restartReply o ho hrole
  · rintro ⟨queue, reserved, limit, places, restart, restartReply⟩
    refine ⟨queue, reserved, limit, ?_, fun h => ?_, fun o ho hrole => restartReply (hreply.mpr ⟨o, ho, hrole⟩)⟩
    · simpa [State.placesView] using places
    · simpa [State.placesView] using restart h

/-- A change that moves no place keeps the law. -/
theorem State.PlacesLaw.unseen {s t : State} (hs : s.PlacesLaw) (h : t.placesView = s.placesView) :
    t.PlacesLaw := by
  rw [placesLaw_iff, h, ← placesLaw_iff]
  exact hs

/-- The law holds where nothing is queued, held or under way. -/
theorem placesLaw_of_empty {s : State} (hqueue : s.relayQueue = []) (hlist : s.trunkOut = ⟨0, []⟩)
    (htxn : s.txn = .idle) (hcommit : s.commit = none) : s.PlacesLaw := by
  refine ⟨?_, ?_, ?_, ?_, fun _ => hcommit, ?_⟩
  all_goals simp [hqueue, hlist, hcommit, State.relayedOutstanding, htxn, bitIf]

/-- A telegram more in the list, where a place is free. -/
theorem PlacesView.Law.filling {v : PlacesView} (h : v.Law) (hfree : v.reserved + v.filled.length < 10)
    (t : Telegram) : ({ v with filled := v.filled ++ [t] } : PlacesView).Law :=
  { h with places := by simp only [List.length_append, List.length_singleton]; omega }

theorem fillReserved_placesView (s : State) (o : OutTelegram) : (s.fillReserved o).placesView =
    { s.placesView with
      reserved := s.placesView.reserved - 1
      filled := s.placesView.filled ++ [o.telegram]
      restartReply := s.placesView.restartReply || o.role == .restart } := by
  simp [State.placesView, State.fillReserved, State.relayedOutstanding]

/-! ### What keeps the law -/

variable {s : State} (hs : s.PlacesLaw)
include hs

/-! #### Ports and the trunk output list (R154, R156) -/

theorem State.PlacesLaw.updatePort (p : PortId) (f : Port → Port) : (s.updatePort p f).PlacesLaw := by
  cases p <;> exact hs.unseen rfl

theorem State.PlacesLaw.count (p : PortId) (f : Counters → Counters) : (s.count p f).PlacesLaw :=
  hs.updatePort p _

theorem State.PlacesLaw.ofProtection {t : State} (h : sameOutsideProtection s t) : t.PlacesLaw :=
  hs.unseen (placesView_of_protection h)

/-- A plain telegram takes a free place. -/
theorem State.PlacesLaw.adding (hfree : s.trunkOut.reserved + s.trunkOut.filled.length < 10) (t : Telegram) :
    ({ s with trunkOut := s.trunkOut.adding t } : State).PlacesLaw := by
  have hview : ({ s with trunkOut := s.trunkOut.adding t } : State).placesView =
      { s.placesView with filled := s.placesView.filled ++ [t] } := by
    simp [State.placesView, TrunkOut.adding, State.relayedOutstanding]
  rw [placesLaw_iff, hview]
  exact ((placesLaw_iff s).mp hs).filling (by simpa [State.placesView] using hfree) t

theorem State.PlacesLaw.fillFreeOrDrop (t : Telegram) : (s.fillFreeOrDrop t).PlacesLaw := by
  rw [State.fillFreeOrDrop_eq]
  split
  · exact hs.adding ‹_› t
  · exact hs.unseen rfl

/-- A relay candidate takes a slot of the queue and a place for its answer, or neither (R155). -/
theorem State.PlacesLaw.takeRelayCandidate (t : Telegram) : (s.takeRelayCandidate t).PlacesLaw := by
  unfold State.takeRelayCandidate
  split
  · rename_i h
    obtain ⟨hslot, hroom⟩ := h
    obtain ⟨hfree, hreserve⟩ := (canReserve_iff _).mp hroom
    have hslot : s.relayQueue.length < 7 := hslot
    have hreserved := hs.reserved
    refine ⟨?_, ?_, hreserve, ?_, hs.restart, hs.restartReply⟩
    · show (s.relayQueue ++ [t]).length ≤ 7
      simp only [List.length_append, List.length_singleton]
      omega
    · show s.trunkOut.reserved + 1 =
        (s.relayQueue ++ [t]).length + bitIf s.relayedOutstanding 1 + bitIf s.commit.isSome 1
      simp only [List.length_append, List.length_singleton]
      omega
    · show s.trunkOut.reserved + 1 + s.trunkOut.filled.length ≤ 10
      omega
  · exact hs.fillFreeOrDrop _

/-! #### Management requests (R157, R171 to R175) -/

/-- What is served with a place reserved: the reply takes it, or it stays reserved for the COMMIT in flight. -/
theorem State.PlacesLaw.answered {src code : Byte} {x : Served} (hroom : s.trunkOut.canReserve = true)
    (hrestart : s.restartPending = false) (hcommit : refusedDuringCommit code = true → s.commit = none)
    (hx : ServesRequest s.reservePlace code x) : (x.answered s src code).PlacesLaw := by
  obtain ⟨hfree, hreserve⟩ := (canReserve_iff _).mp hroom
  have hplaces : s.placesView.reserved + s.placesView.filled.length < 10 := by
    simpa [State.placesView] using hfree
  have hview := (placesLaw_iff s).mp hs
  cases hx with
  | refused r =>
    rw [refuse_answered]
    exact hs.adding hfree _
  | accepted clamped hresult hrole hsame =>
    have hplain : (x.role == .restart) = false := beq_eq_false_iff_ne.mpr hrole
    unfold Served.answered
    rw [hresult, placesLaw_iff, fillReserved_placesView, hsame, hplain, Bool.or_false]
    exact hview.filling hplaces _
  | writes q image =>
    have hidle : s.placesView.writing = false := by simp [State.placesView, hcommit rfl]
    have hreserved := hview.reserved
    rw [hidle] at hreserved
    rw [placesLaw_iff]
    exact { hview with
      reserved := congrArg (· + 1) hreserved
      limit := hreserve
      places := show s.placesView.reserved + 1 + s.placesView.filled.length ≤ 10 by omega
      restart := fun h => absurd (h.symm.trans hrestart) nofun }
  | restarts =>
    have hidle : s.placesView.writing = false := by simp [State.placesView, hcommit rfl]
    show (State.fillReserved _ _).PlacesLaw
    rw [placesLaw_iff, fillReserved_placesView]
    exact { hview.filling hplaces _ with restart := fun _ => hidle, restartReply := fun _ => rfl }

theorem State.PlacesLaw.takeAdmin {src code : Byte} {serve : State → Served}
    (hserves : ∀ u, ServesRequest u code (serve u)) :
    (s.takeAdmin src code (refusedDuringCommit code) serve).PlacesLaw := by
  by_cases hroom : s.trunkOut.canReserve = true
  · rcases takeAdmin_taken hroom with hbusy | ⟨hrestart, hcommit, hanswered⟩
    · rw [hbusy]
      exact hs.adding ((canReserve_iff _).mp hroom).1 _
    · rw [hanswered]
      exact hs.answered hroom hrestart hcommit (hserves _)
  · rw [takeAdmin_turnedAway hroom]
    exact hs.fillFreeOrDrop _

theorem State.PlacesLaw.takeUnknown (src code : Byte) : (s.takeUnknown src code).PlacesLaw := by
  unfold State.takeUnknown
  split
  · rename_i hroom
    rw [State.reservePlace_fillReserved]
    exact hs.adding ((canReserve_iff _).mp hroom).1 _
  · exact hs.fillFreeOrDrop _

/-- Every command that is a request keeps the law. -/
theorem State.PlacesLaw.request {i : Instr} {src code : Byte} {t : State}
    (hi : adminRequest i = some (src, code)) (h : exec i s = .next t) : t.PlacesLaw := by
  obtain ⟨serve, hexec, hserves⟩ := exec_request hi
  cases (hexec s).symm.trans h
  exact hs.takeAdmin hserves

theorem State.PlacesLaw.takeAdminPayload (src code : Byte) (args : List Byte) :
    (s.takeAdminPayload src code args).PlacesLaw := by
  by_cases hcode : 1 ≤ code.toNat ∧ code.toNat ≤ 17
  · obtain ⟨i, hi, hargs⟩ := exists_request src args hcode.1 hcode.2
    exact hs.request hi (exec_eq_takeAdminPayload hi hargs s)
  · rw [takeAdminPayload_unknown (by omega)]
    exact hs.takeUnknown src code

end Sys2Proof.Machine
end

section
/-! The law of the places over the branch transaction, the ports and RESTART, and that every step keeps it
(O56). -/

namespace Sys2Proof.Machine

/-! ### The outstanding relayed transaction (R161) -/

/-- A transaction for a request taken from the relay queue. -/
def TxnOrigin.isRelayed : TxnOrigin → Bool
  | .relayed _ => true
  | .ownSet _ _ _ => false
  | .ownRead => false

theorem relayedOutstanding_of_txn {s : State} {phase : TxnPhase} {q : Transaction}
    (h : s.txn = .outstanding phase q) : s.relayedOutstanding = q.origin.isRelayed := by
  unfold State.relayedOutstanding
  rw [h]
  cases ho : q.origin <;> simp [ho, TxnOrigin.isRelayed]

theorem relayedOutstanding_of_turnaround {s : State} {n : Nat} (h : s.txn = .turnaround n) :
    s.relayedOutstanding = false := by
  unfold State.relayedOutstanding
  rw [h]

theorem relayedOutstanding_of_idle {s : State} (h : s.txn = .idle) : s.relayedOutstanding = false := by
  unfold State.relayedOutstanding
  rw [h]

theorem afterResult_placesView (s : State) (n : Nat) :
    (afterResult s n).placesView = { s.placesView with relayed := false } := rfl

theorem ownSetResult_placesView (s : State) (station channel : Nat) (live : Bool) (r : TxnResult) :
    (s.ownSetResult station channel live r).placesView = s.placesView := by
  have hfails : (s.ownSetFails station channel).placesView = s.placesView := by
    rw [ownSetFails_eq]
    unfold recordMissed
    split <;> rfl
  unfold State.ownSetResult
  split
  · rfl
  · split
    · exact hfails
    · rfl

theorem afterGrant_placesView (s : State) (request : Telegram) (origin : TxnOrigin) (fairness : Nat) :
    (afterGrant s request origin fairness).placesView = { s.placesView with relayed := origin.isRelayed } := by
  cases origin <;> rfl

/-- A relayed request forms from the head of the queue (R159). -/
theorem formRequest_relay_places (s : State) (t : Telegram) (rest : List Telegram) :
    (s.formRequest (.relay t rest)).1.placesView = { s.placesView with queued := rest.length } ∧
      (s.formRequest (.relay t rest)).2.2.isRelayed = true := by
  unfold State.formRequest
  dsimp only
  split <;> exact ⟨rfl, rfl⟩

/-- What the arbiter takes from the relay is the head of its queue (R153, R159). -/
theorem relayQueue_of_chooseGrant {s : State} {t : Telegram} {rest : List Telegram}
    (h : s.chooseGrant = some (.relay t rest)) : s.relayQueue = t :: rest := by
  unfold State.chooseGrant at h
  split at h
  · split at h
    · cases h
      assumption
    · split at h
      · cases h
      · cases h
        assumption
  · split at h
    · cases h
    · split at h
      · cases h
      · split at h <;> cases h

/-! ### A RESTART takes effect (R168, R175) -/

theorem restartCoil_same (s : State) (c : CoilId) : sameOutsideProtection s (s.restartCoil c) := by
  rw [State.restartCoil_eq]
  split
  · exact State.enterStartup_same s c
  · rfl

/-- The recomputation of all records, whatever they were, moves no place (R105, R106). -/
theorem recomputed_placesView (s : State) (rs : List (Option ActuatorRecord)) :
    (s.withRecords rs).takeLevelsAndRecompute.placesView = s.placesView := rfl

theorem restartNow_placesLaw {s : State} (h : s.commit = none) : s.restartNow.PlacesLaw := by
  have hempty : s.restartedButCoils.PlacesLaw := placesLaw_of_empty rfl rfl rfl h
  exact hempty.unseen ((recomputed_placesView s.coilsRestarted _).trans
    (placesView_of_protection (sameOutsideProtection_foldl State.restartCoil restartCoil_same coilIds _)))

/-! ### Power-on (R187, R188) -/

theorem bringUp_same (s : State) (c : CoilId) : sameOutsideProtection s (s.bringUp c) := by
  unfold State.bringUp
  split
  · exact State.enterStartup_same s c
  · rfl

theorem powerOnValid_placesLaw (s : State) (straps : BitVec 5) (image : ImageContents) :
    (s.powerOnValid straps image).PlacesLaw := by
  have htables : (s.powerOnTables straps image).PlacesLaw := placesLaw_of_empty rfl rfl rfl rfl
  exact htables.unseen ((recomputed_placesView (coilIds.foldl State.bringUp (s.powerOnTables straps image)) _).trans
    (placesView_of_protection (sameOutsideProtection_foldl State.bringUp bringUp_same coilIds _)))

variable {s : State} (hs : s.PlacesLaw)
include hs

/-! ### The branch transaction (R159, R161 to R166) -/

theorem State.PlacesLaw.withTxn {x : TxnState} (h : (s.withTxn x).relayedOutstanding = s.relayedOutstanding) :
    (s.withTxn x).PlacesLaw := hs.unseen (congrArg (fun b => { s.placesView with relayed := b }) h)

theorem State.PlacesLaw.movePhase (p : TxnPhase) : (s.movePhase p).PlacesLaw := by
  unfold State.movePhase
  split
  · rename_i q htxn
    exact hs.withTxn ((relayedOutstanding_of_txn rfl).trans (relayedOutstanding_of_txn htxn).symm)
  · exact hs

/-- The result of a relayed transaction fills the place that was reserved for it (R164, R165). -/
theorem State.PlacesLaw.relayAnswered (hrelayed : s.relayedOutstanding = true) (t : Telegram) (n : Nat) :
    (afterResult (s.fillReserved { telegram := t, role := .plain }) n).PlacesLaw := by
  have hview := (placesLaw_iff s).mp hs
  have hplaces := hview.places
  have hlimit := hview.limit
  have hreserved : s.placesView.reserved = s.placesView.queued + 1 + bitIf s.placesView.writing 1 := by
    simpa [show s.placesView.relayed = true from hrelayed, bitIf] using hview.reserved
  rw [placesLaw_iff, afterResult_placesView, fillReserved_placesView,
    show ((ReplyRole.plain == .restart) = false) from rfl, Bool.or_false]
  exact { hview with
    reserved := show s.placesView.reserved - 1 =
      s.placesView.queued + 0 + bitIf s.placesView.writing 1 by omega
    limit := show s.placesView.reserved - 1 ≤ 7 by omega
    places := by
      simp only [List.length_append, List.length_singleton]
      omega }

theorem State.PlacesLaw.endTransaction (r : TxnResult) : (s.endTransaction r).PlacesLaw := by
  cases htxn : s.txn with
  | idle =>
    rw [show s.endTransaction r = s by unfold State.endTransaction; rw [htxn]]
    exact hs
  | turnaround n =>
    rw [show s.endTransaction r = s by unfold State.endTransaction; rw [htxn]]
    exact hs
  | outstanding phase q =>
    have hrelayed := relayedOutstanding_of_txn htxn
    rw [endTransaction_eq htxn]
    unfold State.deliverResult
    cases ho : q.origin with
    | relayed rewritten =>
      rw [ho] at hrelayed
      exact hs.relayAnswered hrelayed _ _
    | ownSet station channel live =>
      rw [ho] at hrelayed
      refine hs.unseen ?_
      rw [afterResult_placesView, ownSetResult_placesView]
      exact congrArg (fun b => { s.placesView with relayed := b }) hrelayed.symm
    | ownRead =>
      rw [ho] at hrelayed
      exact hs.unseen (congrArg (fun b => { s.placesView with relayed := b }) hrelayed.symm)

theorem State.PlacesLaw.endIfReceiving (r : TxnResult) : (s.endIfReceiving r).PlacesLaw := by
  unfold State.endIfReceiving
  split
  · exact hs.endTransaction r
  · exact hs

theorem State.PlacesLaw.countTurnaround : s.countTurnaround.PlacesLaw := by
  unfold State.countTurnaround
  split
  · rename_i n htxn
    have hown := relayedOutstanding_of_turnaround htxn
    split
    · exact hs.withTxn ((relayedOutstanding_of_turnaround rfl).trans hown.symm)
    · exact hs.withTxn ((relayedOutstanding_of_idle rfl).trans hown.symm)
  · exact hs

theorem State.PlacesLaw.trackTurnaround (p : PortId) : (s.trackTurnaround p).PlacesLaw := by
  cases p
  · exact hs
  · exact hs.countTurnaround

/-- The grant of the relay's head takes its place along; any other takes none (R153, R159). -/
theorem State.PlacesLaw.grant {g : Grant} (hidle : s.txn = .idle) (hg : s.chooseGrant = some g) :
    (s.grant g).PlacesLaw := by
  have hown : s.placesView.relayed = false := relayedOutstanding_of_idle hidle
  have hview := (placesLaw_iff s).mp hs
  have hsame : ({ s.placesView with relayed := false } : PlacesView).Law := hown ▸ hview
  rw [grant_eq_afterGrant, placesLaw_iff, afterGrant_placesView]
  cases g with
  | need r => exact hsame
  | poll => exact hsame
  | relay t rest =>
    obtain ⟨hformed, hrelayed⟩ := formRequest_relay_places s t rest
    have hqueue : s.placesView.queued = rest.length + 1 := congrArg List.length (relayQueue_of_chooseGrant hg)
    have hreserved := hview.reserved
    have hlength := hview.queue
    rw [hown, hqueue] at hreserved
    rw [hformed, hrelayed]
    exact { hview with
      queue := show rest.length ≤ 7 by omega
      reserved := hreserved }

theorem State.PlacesLaw.branchLeft : s.branchLeft.PlacesLaw := (hs.updatePort .branch _).movePhase _

theorem State.PlacesLaw.endBreak : s.endBreak.PlacesLaw := (hs.updatePort .branch _).movePhase _

theorem State.PlacesLaw.lineFaults : s.lineFaults.PlacesLaw :=
  ((hs.updatePort .branch _).count .branch _).endTransaction _

/-! ### Receivers (chapter 7) -/

theorem State.PlacesLaw.telegramError (p : PortId) : (s.telegramError p).PlacesLaw := by
  unfold State.telegramError
  split
  · exact hs.updatePort p _
  · exact (hs.updatePort p _).unseen rfl

theorem State.PlacesLaw.discardInAssembly (p : PortId) : (s.discardInAssembly p).PlacesLaw := by
  cases p
  · exact hs.telegramError .trunk
  · exact (hs.endIfReceiving _).telegramError .branch

theorem State.PlacesLaw.discardAddress (p : PortId) : (s.discardAddress p).PlacesLaw := by
  cases p
  · exact hs.count .trunk (fun k => { k with address := bump k.address })
  · exact (hs.count .branch (fun k => { k with address := bump k.address })).endIfReceiving _

theorem State.PlacesLaw.gapExpires (p : PortId) : (s.gapExpires p).PlacesLaw :=
  ((hs.updatePort p _).count p _).discardInAssembly p

theorem State.PlacesLaw.trunkIntake (t : Telegram) : (s.trunkIntake t).PlacesLaw := by
  unfold State.trunkIntake
  split
  · exact hs.takeRelayCandidate t
  · split
    · exact hs.takeAdminPayload _ _ _
    · exact hs

theorem State.PlacesLaw.judgeAnswer (t : Telegram) : (s.judgeAnswer t).PlacesLaw := by
  unfold State.judgeAnswer
  split
  · exact hs.endTransaction _
  · exact hs

theorem State.PlacesLaw.branchIntake (t : Telegram) : (s.branchIntake t).PlacesLaw := by
  unfold State.branchIntake
  refine State.PlacesLaw.judgeAnswer ?_ t
  split
  · exact hs.unseen rfl
  · split
    · exact hs.unseen rfl
    · exact hs

theorem State.PlacesLaw.takeGood (p : PortId) (t : Telegram) : (s.takeGood p t).PlacesLaw := by
  cases p
  · exact (hs.updatePort .trunk _).trunkIntake t
  · exact (hs.updatePort .branch _).branchIntake t

theorem State.PlacesLaw.completeTelegram (p : PortId) (bytes : List Byte) :
    (s.completeTelegram p bytes).PlacesLaw := by
  have hhunt := hs.updatePort p Port.toHunt
  unfold State.completeTelegram
  dsimp only
  split
  · exact (hhunt.count p _).discardInAssembly p
  · split
    · exact hhunt.discardAddress p
    · exact hhunt.takeGood p _

theorem State.PlacesLaw.assembleNext (p : PortId) (bytes : List Byte) (data : Byte) :
    (s.assembleNext p bytes data).PlacesLaw := by
  unfold State.assembleNext
  dsimp only
  split
  · exact ((hs.updatePort p _).count p _).discardInAssembly p
  · split
    · exact hs.completeTelegram p _
    · exact hs.updatePort p _

theorem State.PlacesLaw.countCharError (p : PortId) (isBreak : Bool) : (s.countCharError p isBreak).PlacesLaw :=
  (hs.count p _).updatePort p _

theorem State.PlacesLaw.answerBegins (p : PortId) : (s.answerBegins p).PlacesLaw := by
  cases p
  · exact hs
  · unfold State.answerBegins
    dsimp only
    split
    · exact hs.movePhase _
    · exact hs

theorem State.PlacesLaw.takeCharIn (p : PortId) (ch : LineChar) : (s.takeCharIn p ch).PlacesLaw := by
  unfold State.takeCharIn
  split
  · split
    · exact hs.countCharError p _
    · split
      · exact (hs.updatePort p _).answerBegins p
      · exact hs
  · split
    · exact (hs.countCharError p _).discardInAssembly p
    · split
      · exact ((hs.updatePort p _).count p _).discardInAssembly p
      · exact hs.assembleNext p _ _

theorem State.PlacesLaw.takeChar (p : PortId) (ch : LineChar) : (s.takeChar p ch).PlacesLaw := by
  rw [takeChar_heard]
  exact (hs.updatePort p (portHeard · ch.noise)).takeCharIn p ch

/-! ### The trunk transmitter (R144, R146) -/

theorem State.PlacesLaw.collide (t : Transmission) : (s.collide t).PlacesLaw := by
  have hstopped := (hs.updatePort .trunk Port.endTransmission).count .trunk
    (fun k => { k with collision := bump k.collision })
  unfold State.collide State.noticeLost
  split
  · exact hstopped.unseen rfl
  · exact hstopped
  · exact hstopped

/-- The first telegram leaves its place free; with the reply of a RESTART the whole list is emptied, and no
COMMIT is in flight then (R175). -/
theorem State.PlacesLaw.listHeadLeft : s.listHeadLeft.PlacesLaw := by
  unfold State.listHeadLeft
  split
  · exact hs
  · rename_i first rest hfilled
    have hcommit (h : first.role = .restart) : s.commit = none :=
      hs.restart (hs.restartReply first (by simp [hfilled]) h)
    have hplaces : s.trunkOut.reserved + (rest.length + 1) ≤ 10 := by simpa [hfilled] using hs.places
    have hleft : (s.withTrunkOut { s.trunkOut with filled := rest }).PlacesLaw :=
      ⟨hs.queue, hs.reserved, hs.limit, Nat.le_of_succ_le hplaces, hs.restart,
        fun o ho => hs.restartReply o (by simp [hfilled, show o ∈ rest from ho])⟩
    cases hrole : first.role with
    | plain => exact hleft
    | setPorts => exact hleft.unseen rfl
    | restart => exact restartNow_placesLaw (hcommit hrole)

theorem State.PlacesLaw.trunkLeft (t : Transmission) : (s.trunkLeft t).PlacesLaw := by
  have hstopped := hs.updatePort .trunk Port.endTransmission
  unfold State.trunkLeft
  dsimp only
  split
  · exact hstopped.listHeadLeft
  · exact hstopped.unseen rfl
  · exact hstopped

/-! ### The idle line and samples (chapter 8) -/

theorem State.PlacesLaw.applyStaged (p : PortId) : (s.applyStaged p).PlacesLaw := by
  have happly (q : PortSettings) (timeout : Nat) : (s.applyBranch q timeout).PlacesLaw := by
    refine State.PlacesLaw.endIfReceiving ?_ _
    exact hs.unseen rfl
  unfold State.applyStaged
  split
  · cases p
    · dsimp only
      split
      · exact hs
      · exact hs.unseen rfl
    · dsimp only
      split
      · exact hs
      · exact happly _ _
  · exact hs

theorem State.PlacesLaw.lineIdles (p : PortId) : (s.lineIdles p).PlacesLaw := (hs.updatePort p _).applyStaged p

theorem State.PlacesLaw.readBack (p : PortId) (t : Transmission) (l : Level) : (s.readBack p t l).PlacesLaw := by
  by_cases hmismatch : t.mismatches l
  · rw [readBack_mismatch hmismatch]
    cases p
    · exact hs.collide t
    · exact hs.lineFaults
  · have hnext := hs.updatePort p (fun x => { x with tx := some (t.advanced l) })
    rw [readBack_agrees hmismatch]
    dsimp only
    split
    · cases p
      · exact hnext.trunkLeft t
      · exact hnext.branchLeft
    · split
      · exact hnext.endBreak
      · exact hnext

theorem State.PlacesLaw.sampleChar (p : PortId) (c : CharSampler) (l : Level) :
    (s.sampleChar p c l).PlacesLaw := by
  unfold State.sampleChar
  dsimp only
  split
  · split
    · exact hs.updatePort p _
    · split
      · exact hs.takeChar p _
      · exact hs.updatePort p _
  · exact hs.updatePort p _

theorem State.PlacesLaw.receiveSpace (p : PortId) : (s.receiveSpace p).PlacesLaw := by
  have hheard := hs.updatePort p (fun x => { x with idleCount := 0, lineIdle := false })
  unfold State.receiveSpace
  dsimp only
  split
  · exact hheard.sampleChar p _ _
  · split
    · exact hheard
    · exact hheard.updatePort p _

theorem State.PlacesLaw.countGap (p : PortId) : (s.countGap p).PlacesLaw := by
  unfold State.countGap
  split
  · exact hs
  · split
    · exact hs.gapExpires p
    · exact hs.updatePort p _

theorem State.PlacesLaw.countIdle (p : PortId) : (s.countIdle p).PlacesLaw := by
  unfold State.countIdle
  split
  · exact hs.updatePort p _
  · split
    · exact hs
    · exact hs.lineIdles p

theorem State.PlacesLaw.receiveMark (p : PortId) : (s.receiveMark p).PlacesLaw := by
  have hheard := hs.updatePort p (fun x => { x with waitMark := false })
  unfold State.receiveMark
  refine State.PlacesLaw.countIdle ?_ p
  split
  · exact hheard.sampleChar p _ _
  · exact hheard.countGap p

theorem State.PlacesLaw.tracked (p : PortId) (l : Level) :
    ((s.updatePort p (fun x => x.trackSpace l)).trackTurnaround p).PlacesLaw :=
  (hs.updatePort p _).trackTurnaround p

/-! ### The other commands -/

theorem State.PlacesLaw.updatePoint (i : Nat) (f : PointEntry → PointEntry) : (s.updatePoint i f).PlacesLaw := by
  unfold State.updatePoint
  split
  · exact hs
  · exact hs.unseen rfl

/-- The reply of a COMMIT fills the place that was reserved for it (R173). -/
theorem State.PlacesLaw.answerCommit {q : CommitInFlight} (hq : s.commit = some q) (r : ResultCode) :
    (s.answerCommit q r).PlacesLaw := by
  have hwriting : s.placesView.writing = true := by simp [State.placesView, hq]
  have hview := (placesLaw_iff s).mp hs
  have hplaces := hview.places
  have hlimit := hview.limit
  have hreserved := hview.reserved
  rw [hwriting] at hreserved
  have hreserved : s.placesView.reserved = s.placesView.queued + bitIf s.placesView.relayed 1 + 1 := hreserved
  unfold State.answerCommit
  rw [placesLaw_iff, fillReserved_placesView, show ((ReplyRole.plain == .restart) = false) from rfl,
    Bool.or_false]
  exact { hview with
    reserved := show s.placesView.reserved - 1 =
      s.placesView.queued + bitIf s.placesView.relayed 1 + 0 by omega
    limit := show s.placesView.reserved - 1 ≤ 7 by omega
    places := by
      show s.placesView.reserved - 1 + (s.placesView.filled ++ [_]).length ≤ 10
      simp only [List.length_append, List.length_singleton]
      omega
    restart := fun _ => rfl }

theorem State.PlacesLaw.leaveFallback : s.leaveFallback.PlacesLaw := by
  unfold State.leaveFallback
  split
  · exact hs.unseen ((placesView_of_protection (State.deriveTripOutput_same _)).trans rfl)
  · exact hs

theorem State.PlacesLaw.commitEnded {q : CommitInFlight} (hq : s.commit = some q) (success : Bool) :
    (if success then ((s.withStore (Store.written q.contents)).answerCommit q .accepted).leaveFallback
      else (s.withStore Store.spoilt).answerCommit q .storeFault).PlacesLaw := by
  have hanswered (image : Store) (r : ResultCode) : ((s.withStore image).answerCommit q r).PlacesLaw :=
    State.PlacesLaw.answerCommit (s := s.withStore image) (hs.unseen rfl) hq r
  split
  · exact (hanswered _ _).leaveFallback
  · exact hanswered _ _

/-- Every command that is no request keeps the law. -/
theorem State.PlacesLaw.event {i : Instr} {t : State} (hi : adminRequest i = none) (h : exec i s = .next t) :
    t.PlacesLaw := by
  cases i <;> cases hi <;> cases h
  case powerOnReset straps =>
    split
    · exact powerOnValid_placesLaw s straps _
    · exact placesLaw_of_empty rfl rfl rfl rfl
  case commitWriteEnd success =>
    split
    · exact hs
    · exact hs.commitEnded ‹_› success
  case characterReceived p ch =>
    split
    · exact hs.takeChar p ch
    · exact hs
  case gapTimerExpiry p =>
    split
    · exact hs.gapExpires p
    · exact hs
  case telegramComplete p last noise =>
    split
    · exact hs.takeChar p _
    · exact hs
  case responseTimeout =>
    split
    · exact hs.endTransaction _
    · exact hs
  case turnaroundEnd =>
    split
    · rename_i n htxn
      exact hs.withTxn ((relayedOutstanding_of_idle rfl).trans (relayedOutstanding_of_turnaround htxn).symm)
    · exact hs
  case lineIdleEvent p =>
    split
    · exact hs.lineIdles p
    · exact hs
  case branchGrant =>
    split
    · rename_i hfree
      have hidle : s.txn = .idle := by
        simp only [State.branchFree, Bool.and_eq_true, beq_iff_eq] at hfree
        exact hfree.1.1
      split
      · exact hs.grant hidle ‹_›
      · exact hs
    · exact hs
  case trunkTransmissionBegin =>
    split
    · split
      · exact hs.updatePort .trunk _
      · split
        · exact hs.unseen rfl
        · exact hs
    · exact hs
  case collision =>
    split
    · exact hs
    · exact hs.collide _
  case branchLineFault =>
    split
    · exact hs.lineFaults
    · exact hs
  case trunkTransmissionComplete =>
    split
    · exact hs
    · exact hs.trunkLeft _
  case branchTransmissionComplete =>
    split
    · exact hs.branchLeft
    · exact hs
  case evaluation c =>
    split
    · exact hs.ofProtection (State.evaluateCoil_same s c)
    · exact hs
  case debouncedContactChange n newState =>
    split
    · exact hs.unseen ((placesView_of_protection (State.handContactChange_same _ n)).trans rfl)
    · exact hs
  case contactSettling =>
    split
    · exact hs
    · exact hs.unseen ((placesView_of_protection (State.deriveTripOutput_same _)).trans rfl)
  case debouncedSenseChange high =>
    split
    · exact hs
    · exact hs.ofProtection (State.changeSense_same s high)
  case releaseTimerExpiry => exact hs.ofProtection (State.expireRelease_same s)
  case pointAgeExpiry n => exact hs.updatePoint n.val _
  case pollTimerExpiry n => exact hs.updatePoint n.val _
  case refreshTimerExpiry r =>
    split
    · exact hs
    · split
      · exact hs.unseen rfl
      · exact hs
  case tick contacts high =>
    exact hs.unseen ((placesView_of_protection (State.handTick_same _ _ _)).trans rfl)
  case plantClockIncrement => split <;> exact hs.unseen rfl
  case sampleAtSpace p =>
    have hheard := hs.tracked p .space
    dsimp only
    split
    · exact hheard.readBack p _ _
    · exact hheard.receiveSpace p
  case sampleAtMark p =>
    have hheard := hs.tracked p .mark
    dsimp only
    split
    · exact hheard.readBack p _ _
    · exact hheard.receiveMark p
  case breakEnd =>
    split
    · exact hs.endBreak
    · exact hs

theorem State.PlacesLaw.command {i : Instr} {t : State} (h : exec i s = .next t) : t.PlacesLaw := by
  cases hi : adminRequest i with
  | none => exact hs.event hi h
  | some request => exact hs.request hi h

omit hs in
/-- Settles O56: a step is its command, over the rest of the queue. -/
theorem placesLawKeptByEveryStep : Obligations.PlacesLawKeptByEveryStep := by
  intro s t hs hstep
  unfold step at hstep
  split at hstep
  · cases hstep
    exact hs
  · rename_i c rest _
    have hrest : (s.withPending rest).PlacesLaw := hs.unseen rfl
    exact hrest.command hstep

end Sys2Proof.Machine
end

section
/-! Trunk intake: the relay candidate (O20) and the management candidate (O21). -/

namespace Sys2Proof.Machine

/-! ### A good telegram on the trunk (R135, R152) -/

section Intake
variable {s : State} {t : Telegram}

/-- A telegram that passes check and address on the trunk goes to trunk intake (R135). -/
theorem exec_telegramComplete_trunk {bytes : List Byte} {last : Byte} {noise : Bool}
    (h : completes s.trunk bytes last) (hcheck : checkPasses (bytes ++ [last]) = true)
    (ht : t = assembledTelegram (bytes ++ [last])) (hdest : assigned t.dest) :
    exec (.telegramComplete .trunk last noise) s =
      .next (({ s with trunk := portGood s.trunk noise } : State).trunkIntake t) := by
  subst ht
  rw [exec_telegramComplete (p := .trunk) h]
  unfold State.completeTelegram
  rw [if_neg (not_not.mpr hcheck), if_neg (not_not.mpr ((addressAssigned_iff _).mpr hdest))]
  rfl

theorem trunkIntake_relay (hcode : t.code = 1 ∨ t.code = 3) (hset : t.dest.toNat ∈ s.relaySet) :
    s.trunkIntake t = s.takeRelayCandidate t := if_pos ⟨hcode, List.contains_iff_mem.mpr hset⟩

theorem trunkIntake_other (h : t.code ≠ 1 ∧ t.code ≠ 3 ∨ t.dest.toNat ∉ s.relaySet) : s.trunkIntake t =
    if t.code = 6 ∧ t.dest = s.ownAddress then s.takeAdminPayload t.src (t.payload.headD 0) t.payload.tail
    else s := by
  refine if_neg fun ⟨hcode, hset⟩ => ?_
  rcases h with ⟨hread, hset'⟩ | hout
  · exact hcode.elim hread hset'
  · exact hout (List.contains_iff_mem.mp hset)

/-- A relay candidate with a slot of the queue and a place to reserve (R155). -/
theorem takeRelayCandidate_enters (hslot : s.relayQueue.length < 7) (hroom : s.trunkOut.canReserve = true) :
    s.takeRelayCandidate t = { s with
      relayQueue := s.relayQueue ++ [t],
      trunkOut := { s.trunkOut with reserved := s.trunkOut.reserved + 1 } } := if_pos ⟨hslot, hroom⟩

/-- A relay candidate that is not entered is refused BUSY (R156). -/
theorem takeRelayCandidate_refused (h : ¬ (s.relayQueue.length < 7 ∧ s.trunkOut.canReserve = true)) :
    s.takeRelayCandidate t = s.fillFreeOrDrop (refusalOf t 0xE4#8) := if_neg h

/-- A request of an unknown code, by the room for its reply (R156, R171). -/
theorem takeUnknown_room {src code : Byte} (hroom : s.trunkOut.canReserve = true) :
    s.takeUnknown src code = s.replied src code 0x1A#8 [] :=
  (if_pos hroom).trans (s.reservePlace_fillReserved _)

theorem takeUnknown_turnedAway {src code : Byte} (h : ¬ s.trunkOut.canReserve = true) :
    s.takeUnknown src code = s.fillFreeOrDrop (s.replyTo src code 0x19#8 []) := if_neg h

/-- The own address is a supervisor's, 200 to 231 (R126, R190). -/
theorem assigned_ownAddress (s : State) : assigned s.ownAddress := by
  have hstraps := s.straps.isLt
  have haddress : s.ownAddress.toNat = 200 + s.straps.toNat := toNat_byte (by omega)
  rw [← addressAssigned_iff]
  simp [addressAssigned, haddress]
  omega

end Intake

/-- Settles O20: a relay candidate by the room for it, any other telegram by its kind and DEST. -/
theorem trunkRequestsAreRelayedOrRefused : Obligations.TrunkRequestsAreRelayedOrRefused := by
  intro s bytes last noise t hcompletes hcheck ht hdest
  obtain ⟨good, hgood⟩ : ∃ good : State, good = { s with trunk := portGood s.trunk noise } := ⟨_, rfl⟩
  have hset : good.relaySet = s.relaySet := by rw [hgood]
  have hown : good.ownAddress = s.ownAddress := by rw [hgood]; rfl
  have hqueue : good.relayQueue = s.relayQueue := by rw [hgood]
  have hout : good.trunkOut = s.trunkOut := by rw [hgood]
  rw [exec_telegramComplete_trunk hcompletes hcheck ht hdest, ← hgood, ← hset, ← hown, ← hqueue, ← hout]
  refine ⟨fun hcode hrelay => ?_, fun hother hadmin => ?_⟩
  · rw [trunkIntake_relay hcode hrelay]
    refine ⟨fun hslot hreserve hfree => ?_, fun hfull hfree => ?_, fun hfull => ?_⟩
    · rw [takeRelayCandidate_enters hslot ((canReserve_iff _).mpr ⟨hfree, hreserve⟩), hgood]
    · rw [takeRelayCandidate_refused (by rw [canReserve_iff]; omega), State.fillFreeOrDrop_eq, if_pos hfree, hgood]
    · rw [takeRelayCandidate_refused (by rw [canReserve_iff]; omega), State.fillFreeOrDrop_eq,
        if_neg (Nat.not_lt.mpr hfull), hgood]
  · rw [trunkIntake_other hother, if_neg fun h => hadmin.elim (· h.1) (· h.2), hgood]

/-- Settles O21: an ADMIN to the own address is its payload's request, and one of an unknown code finds room for
its reply or not. -/
theorem adminTelegramIsTheRequest : Obligations.AdminTelegramIsTheRequest := by
  intro s bytes last noise t code args hcompletes hcheck ht hadmin hown hpayload good
  have hexec : exec (.telegramComplete .trunk last noise) s = .next (good.takeAdminPayload t.src code args) := by
    rw [exec_telegramComplete_trunk hcompletes hcheck ht (hown ▸ assigned_ownAddress s),
      trunkIntake_other (.inl (by simp [hadmin])), if_pos ⟨hadmin, hown⟩, hpayload]
    rfl
  rw [hexec]
  refine ⟨fun i hi hargs => (exec_eq_takeAdminPayload hi hargs good).symm, exists_request t.src args,
    fun hunknown => ?_⟩
  rw [takeAdminPayload_unknown hunknown]
  refine ⟨fun hroom => ?_, fun hreserved hfree => ?_, fun hfull => ?_⟩
  · rw [takeUnknown_room (s := good) hroom]
  · rw [takeUnknown_turnedAway (by rw [canReserve_iff]; exact fun h => absurd h.2 (Nat.not_lt.mpr hreserved)),
      State.fillFreeOrDrop_eq, if_pos hfree]
    rfl
  · rw [takeUnknown_turnedAway (by rw [canReserve_iff]; exact fun h => absurd h.1 (Nat.not_lt.mpr hfull)),
      State.fillFreeOrDrop_eq, if_neg (Nat.not_lt.mpr hfull)]

end Sys2Proof.Machine
end

section
/-! The branch transaction: the response timer (O7), and the states of the transaction manager (O8). -/

namespace Sys2Proof.Machine

/-- Settles O7: NO-RESPONSE is a result without a telegram of the station. -/
theorem responseTimeoutEndsTheTransaction : Obligations.ResponseTimeoutEndsTheTransaction := by
  intro s q htxn
  have hexec : exec .responseTimeout s = .next (s.endTransaction .noResponse) :=
    congrArg Host.Outcome.next (if_pos (inPhase_of_outstanding htxn))
  rw [hexec, endTransaction_unanswered (reason := .noResponse) htxn rfl]
  rfl

/-! ### The turnaround (R161) -/

section Turnaround
variable {s : State} {p : PortId}

theorem exec_turnaroundEnd {n : Nat} (h : s.txn = .turnaround n) :
    exec .turnaroundEnd s = .next (s.withTxn .idle) := by
  show execTurnaroundEnd s = _
  unfold execTurnaroundEnd
  rw [h]

/-- The 176th sample ends the turnaround. -/
theorem countTurnaround_eq {n : Nat} (h : s.txn = .turnaround n) :
    s.countTurnaround = s.withTxn (if n < 175 then .turnaround (n + 1) else .idle) := by
  unfold State.countTurnaround
  rw [h]
  by_cases hn : n < 175
  · rw [if_pos hn]
    exact if_pos (by omega)
  · rw [if_neg hn]
    exact if_neg (by omega)

theorem updatePort_txn (f : Port → Port) : (s.updatePort p f).txn = s.txn := by cases p <;> rfl

theorem port_updatePort (f : Port → Port) : (s.updatePort p f).port p = f (s.port p) := port_setPort s p _

/-- On a line that rests the receiver leaves the transaction alone: at space at most a start bit begins. -/
theorem receiveSpace_txn (hsampler : (s.port p).sampler = none) : (s.receiveSpace p).txn = s.txn := by
  unfold State.receiveSpace
  simp only [port_updatePort, hsampler]
  split <;> simp only [updatePort_txn]

/-- Without settings to apply the idle count leaves the transaction alone. -/
theorem countIdle_txn (hleft : s.staged.replyLeft = false) : (s.countIdle p).txn = s.txn := by
  rw [countIdle_eq]
  unfold idleCounted
  split
  · exact setPort_txn ..
  · split
    · rfl
    · rw [lineIdleTaken_plain (.inl hleft), setPort_txn]

/-- At mark, with no gap timer to expire, the idle count goes up. -/
theorem receiveMark_txn (hsampler : (s.port p).sampler = none) (hgap : (s.port p).gapTimer = none)
    (hleft : s.staged.replyLeft = false) : (s.receiveMark p).txn = s.txn := by
  have hstaged : (s.updatePort p (fun x => { x with waitMark := false })).staged = s.staged := by
    cases p <;> rfl
  unfold State.receiveMark
  simp only [port_updatePort, hsampler]
  rw [countGap_stopped (by rw [port_updatePort]; exact hgap), countIdle_txn (by rw [hstaged]; exact hleft),
    updatePort_txn]

/-- A branch sample on a line that rests counts for the turnaround, and does nothing else to the transaction. -/
theorem sampleAt_turnaround {n : Nat} (htx : s.branch.tx = none) (hsampler : s.branch.sampler = none)
    (hgap : s.branch.gapTimer = none) (hleft : s.staged.replyLeft = false) (h : s.txn = .turnaround n)
    (l : Level) : ∃ t, exec (sampleAt l .branch) s = .next t ∧
      t.txn = (if n < 175 then .turnaround (n + 1) else .idle) := by
  have hcounted : (s.updatePort .branch (fun x => x.trackSpace l)).trackTurnaround .branch =
      (s.setPort .branch (heardLevel s.branch l)).withTxn (if n < 175 then .turnaround (n + 1) else .idle) :=
    countTurnaround_eq (s := s.setPort .branch (heardLevel s.branch l)) h
  cases l with
  | space =>
    refine ⟨_, ?_, receiveSpace_txn (s := (s.setPort .branch (heardLevel s.branch .space)).withTxn _)
      (p := .branch) hsampler⟩
    show execSampleAtSpace .branch s = _
    unfold execSampleAtSpace
    simp only [hcounted]
    split
    · rename_i x hx
      exact absurd (htx.symm.trans hx) nofun
    · rfl
  | mark =>
    refine ⟨_, ?_, receiveMark_txn (s := (s.setPort .branch (heardLevel s.branch .mark)).withTxn _)
      (p := .branch) hsampler hgap hleft⟩
    show execSampleAtMark .branch s = _
    unfold execSampleAtMark
    simp only [hcounted]
    split
    · rename_i x hx
      exact absurd (htx.symm.trans hx) nofun
    · rfl

end Turnaround

/-- Settles O8: each state by the event that it waits for. -/
theorem transactionStatesAdvance : Obligations.TransactionStatesAdvance := by
  refine ⟨fun s q x htx => ⟨fun htxn => ?_, fun htxn => ?_⟩, fun s n htxn => ⟨exec_turnaroundEnd htxn, ?_⟩⟩
  · rw [exec_breakEnd htxn, endBreak_eq htx htxn]
  · rw [exec_branchTransmissionComplete htx htxn]
    exact congrArg Host.Outcome.next (movePhase_outstanding (s := s.updatePort .branch _) .awaiting htxn)
  · rintro c htx hsampler hgap hleft (rfl | rfl)
    · exact sampleAt_turnaround htx hsampler hgap hleft htxn .space
    · exact sampleAt_turnaround htx hsampler hgap hleft htxn .mark

end Sys2Proof.Machine
end

section
/-! COMMIT (O42): what it takes into the image, and the end of the write. -/

namespace Sys2Proof.Machine

/-! ### The request (R173, R185) -/

/-- The contents taken, in the terms of the claim: staged settings where some are staged (R185). -/
theorem imageContents_eq_committed (s : State) : s.imageContents = committed s := by
  unfold State.imageContents committed
  cases s.staged.trunk <;> cases s.staged.branch <;> cases s.staged.globals <;> rfl

/-- COMMIT without arguments is served without a reply, so its place stays reserved (R173). -/
theorem exec_commit_accepted {s : State} (src : Byte) (hs : s.takesRequests) :
    exec (.commit src []) s = .next { s with
      commit := some { requester := src, contents := committed s },
      store := { condition := .erased, contents := none, checkWord := none },
      trunkOut := { s.trunkOut with reserved := s.trunkOut.reserved + 1 } } := by
  obtain ⟨hroom, hrestart, hcommit⟩ := hs
  rw [← imageContents_eq_committed]
  exact congrArg Host.Outcome.next
    (State.takeAdmin_served s src 0x0D#8 true (serveCommit src []) hroom hrestart (Or.inr hcommit))

theorem exec_commit_malformed {s : State} (src : Byte) {args : List Byte} (hs : s.takesRequests)
    (h : args ≠ []) : exec (.commit src args) s = .next (s.replied src 0x0D#8 0x13#8 []) :=
  congrArg Host.Outcome.next (takeAdmin_refused (r := .malformed) hs (if_neg h))

/-! ### The end of the write (R173, R185, R186, R189) -/

/-- The part after a write has ended: its image, and the reply in the place reserved for it (R173). -/
def State.commitEnded (s : State) (q : CommitInFlight) (result : Byte) (store : Store) : State :=
  { s with
    commit := none, store := store,
    trunkOut := s.trunkOut.answering (s.replyTo q.requester 0x0D#8 result []) }

theorem answerCommit_eq (s : State) (q : CommitInFlight) (r : ResultCode) (store : Store) :
    (s.withStore store).answerCommit q r = s.commitEnded q r.code store := rfl

theorem Store.written_eq (m : ImageContents) :
    Store.written m = { condition := .valid, contents := some m, checkWord := some (checkOf m) } := by
  rw [checkOf_eq_imageCheck]
  rfl

section WriteEnd
variable {s : State} {q : CommitInFlight}

theorem exec_commitWriteEnd_failure (h : s.commit = some q) : exec (.commitWriteEnd false) s =
    .next (s.commitEnded q 0x1B#8 { condition := .failed, contents := none, checkWord := none }) := by
  show execCommitWriteEnd false s = _
  unfold execCommitWriteEnd
  rw [h]
  rfl

/-- A success ends FALLBACK after the reply has taken its place (R189). -/
theorem exec_commitWriteEnd_success (h : s.commit = some q) : exec (.commitWriteEnd true) s =
    .next (s.commitEnded q 0x00#8 { condition := .valid, contents := some q.contents,
                                    checkWord := some (checkOf q.contents) }).leaveFallback := by
  show execCommitWriteEnd true s = _
  unfold execCommitWriteEnd
  rw [h, ← Store.written_eq]
  rfl

end WriteEnd

/-- Outside FALLBACK only latched coils drive the trip line, whatever the contacts read (R114). -/
theorem wantsDrive_of_not_fallback {s : State} (h : s.fallback = false) :
    s.wantsDrive =
      s.coils.any (fun k => k.cfg.drivesTripLine && (k.state == .trip || k.state == .lockout)) := by
  rw [State.wantsDrive, h, Bool.false_and, Bool.or_false, funext Coil.drives_eq]

/-- FALLBACK ends: the fallback change flag, and the trip output as the coils alone give it (R189, R119). -/
theorem leaveFallback_eq {s : State} (h : s.fallback = true) :
    let want := s.coils.any (fun k => k.cfg.drivesTripLine && (k.state == .trip || k.state == .lockout))
    let contacts := s.contacts.driveAfter s.globals.plantTripRelease want
    s.leaveFallback = { s with
      fallback := false, contacts := contacts,
      notice := { s.notice with
        fallbackChange := .set,
        plantTripEvent := plantTripEventAfter s.contacts contacts s.notice.plantTripEvent } } := by
  rw [State.leaveFallback, if_pos h, State.deriveTripOutput_eq,
    wantsDrive_of_not_fallback (s := (s.withFallback false).raiseFallbackChange) rfl]
  rfl

theorem leaveFallback_of_not_fallback {s : State} (h : s.fallback = false) : s.leaveFallback = s :=
  if_neg (by simp [h])

/-- Settles O42: the request, then the two ends of its write, the successful one inside and outside
FALLBACK. -/
theorem commitWritesTheImage : Obligations.CommitWritesTheImage := by
  refine fun s src => ⟨fun hs args hargs => exec_commit_malformed src hs hargs, exec_commit_accepted src,
    fun q hq => ⟨exec_commitWriteEnd_failure hq, fun hfallback => ?_, fun hfallback => ?_⟩⟩
  · rw [exec_commitWriteEnd_success hq,
      leaveFallback_of_not_fallback (s := s.commitEnded q _ _) hfallback]
    rfl
  · rw [exec_commitWriteEnd_success hq, leaveFallback_eq (s := s.commitEnded q _ _) hfallback]
    rfl

end Sys2Proof.Machine
end


section
/-! The part right after reset meets the laws that every step keeps (O60): its tables are empty, its coils are
out of service with the defaults of R1, and nothing is queued, held or under way (R188). -/

namespace Sys2Proof.Machine

theorem not_mem_emptyTable {α : Type} {n : Nat} {a : α} : ¬ some a ∈ List.replicate n none :=
  fun h => nomatch (List.mem_replicate.mp h).2

theorem reset_shapeLaw : State.reset.ShapeLaw where
  coils := List.length_replicate
  points := List.length_replicate
  rules := List.length_replicate
  records := List.length_replicate
  heldLevels := List.length_replicate
  inputs := List.length_replicate
  noticeCoils := List.length_replicate
  image := nofun
  writing := nofun

/-- Empty tables hold no key twice, and without rules there is no record (R8, R11, R14). -/
theorem reset_keysLaw : State.reset.KeysLaw where
  shape := reset_shapeLaw
  points := keysDistinct_replicate_none _ _
  duties := keysDistinct_replicate_none _ _
  owners _ he := absurd he not_mem_emptyTable
  rules := keysDistinct_replicate_none _ _
  records := keysDistinct_replicate_none _ _
  named _ := ⟨fun ⟨_, hr, _⟩ => absurd hr not_mem_emptyTable, fun ⟨_, hq, _⟩ => absurd hq not_mem_emptyTable⟩
  image := nofun
  writing := nofun

theorem reset_placesLaw : State.reset.PlacesLaw := placesLaw_of_empty rfl rfl rfl rfl

/-- The levels held are those of OFFLINE (R58), and no record is there to be bound. -/
theorem reset_overrideLaw : State.reset.OverrideLaw where
  levels := rfl
  constraints _ hr := absurd hr not_mem_emptyTable

/-- No coil is latched, and before the settling no contact reads open (R110): R114 drives nothing. -/
theorem reset_tripLineLaw : State.reset.TripLineLaw where
  inputs := List.length_replicate
  driven := rfl

theorem mem_reset_coils {k : Coil} (h : k ∈ State.reset.coils) : k = Coil.atPowerOn defaultCoilConfig false :=
  (List.mem_replicate.mp h).2

theorem reset_coilsLaw : State.reset.CoilsLaw := by
  intro k hk
  rw [mem_reset_coils hk]
  exact powerOnCoil_law defaultCoilConfig false

theorem reset_tablesLaw : State.reset.TablesLaw where
  relaySet := ⟨Nat.zero_le _, nofun, List.nodup_nil⟩
  coils k hk := by
    rw [mem_reset_coils hk]
    exact defaultConfig_inRange
  points _ he := absurd he not_mem_emptyTable
  rules _ hr := absurd hr not_mem_emptyTable
  image := nofun
  writing := nofun
  check := nofun

theorem reset_recordsLaw : State.reset.RecordsLaw where
  tables := reset_tablesLaw
  records _ hr := absurd hr not_mem_emptyTable

/-- Settles O60: each law on its own. -/
theorem lawsHoldAtReset : Obligations.LawsHoldAtReset :=
  ⟨reset_keysLaw, reset_placesLaw, reset_overrideLaw, reset_tripLineLaw, reset_coilsLaw, reset_recordsLaw⟩

end Sys2Proof.Machine
end

section
/-! The queue of commands and the straps (O2): every command answers a next state (`exec_completes`), and every
one but a power-on leaves both (`exec_queueAndStraps`). What only coil protection or only line traffic owns is
the same outside of them, so neither sees them. -/

namespace Sys2Proof.Machine

/-- The commands that wait and the levels of the straps (R190). -/
def State.queueAndStraps (s : State) : List Instr × BitVec 5 := (s.pending, s.straps)

theorem queueAndStraps_of_traffic {s t : State} (h : sameOutsideTraffic s t) :
    t.queueAndStraps = s.queueAndStraps := by
  obtain ⟨hpending, -, -, hstraps, -⟩ := sameOutsideTraffic_fields h
  exact Prod.ext hpending hstraps

theorem queueAndStraps_of_protection {s t : State} (h : sameOutsideProtection s t) :
    t.queueAndStraps = s.queueAndStraps := by
  obtain ⟨hpending, -, -, hstraps, -⟩ := sameOutsideProtection_fields h
  exact Prod.ext hpending hstraps

variable (s : State)

/-! ### Ports and the branch transaction (chapters 7 to 9) -/

@[simp] theorem updatePort_queueAndStraps (p : PortId) (f : Port → Port) :
    (s.updatePort p f).queueAndStraps = s.queueAndStraps :=
  queueAndStraps_of_traffic (s.updatePort_traffic p f)

@[simp] theorem count_queueAndStraps (p : PortId) (f : Counters → Counters) :
    (s.count p f).queueAndStraps = s.queueAndStraps :=
  queueAndStraps_of_traffic (s.count_traffic p f)

@[simp] theorem fillFreeOrDrop_queueAndStraps (t : Telegram) :
    (s.fillFreeOrDrop t).queueAndStraps = s.queueAndStraps :=
  queueAndStraps_of_traffic (s.fillFreeOrDrop_traffic t)

@[simp] theorem takeRelayCandidate_queueAndStraps (t : Telegram) :
    (s.takeRelayCandidate t).queueAndStraps = s.queueAndStraps :=
  queueAndStraps_of_traffic (s.takeRelayCandidate_traffic t)

@[simp] theorem branchIntake_queueAndStraps (t : Telegram) :
    (s.branchIntake t).queueAndStraps = s.queueAndStraps :=
  queueAndStraps_of_traffic (s.branchIntake_traffic t)

@[simp] theorem discardInAssembly_queueAndStraps (p : PortId) :
    (s.discardInAssembly p).queueAndStraps = s.queueAndStraps :=
  queueAndStraps_of_traffic (s.discardInAssembly_traffic p)

@[simp] theorem discardAddress_queueAndStraps (p : PortId) :
    (s.discardAddress p).queueAndStraps = s.queueAndStraps :=
  queueAndStraps_of_traffic (s.discardAddress_traffic p)

@[simp] theorem gapExpires_queueAndStraps (p : PortId) :
    (s.gapExpires p).queueAndStraps = s.queueAndStraps :=
  queueAndStraps_of_traffic (s.gapExpires_traffic p)

@[simp] theorem endTransaction_queueAndStraps (r : TxnResult) :
    (s.endTransaction r).queueAndStraps = s.queueAndStraps :=
  queueAndStraps_of_traffic (s.endTransaction_traffic r)

@[simp] theorem endIfReceiving_queueAndStraps (r : TxnResult) :
    (s.endIfReceiving r).queueAndStraps = s.queueAndStraps :=
  queueAndStraps_of_traffic (s.endIfReceiving_traffic r)

@[simp] theorem movePhase_queueAndStraps (x : TxnPhase) :
    (s.movePhase x).queueAndStraps = s.queueAndStraps :=
  queueAndStraps_of_traffic (s.movePhase_traffic x)

@[simp] theorem grant_queueAndStraps (g : Grant) : (s.grant g).queueAndStraps = s.queueAndStraps :=
  queueAndStraps_of_traffic (s.grant_traffic g)

@[simp] theorem branchLeft_queueAndStraps : s.branchLeft.queueAndStraps = s.queueAndStraps :=
  queueAndStraps_of_traffic s.branchLeft_traffic

@[simp] theorem lineFaults_queueAndStraps : s.lineFaults.queueAndStraps = s.queueAndStraps :=
  queueAndStraps_of_traffic s.lineFaults_traffic

@[simp] theorem endBreak_queueAndStraps : s.endBreak.queueAndStraps = s.queueAndStraps :=
  queueAndStraps_of_traffic s.endBreak_traffic

@[simp] theorem collide_queueAndStraps (t : Transmission) :
    (s.collide t).queueAndStraps = s.queueAndStraps :=
  queueAndStraps_of_traffic (s.collide_traffic t)

@[simp] theorem trackTurnaround_queueAndStraps (p : PortId) :
    (s.trackTurnaround p).queueAndStraps = s.queueAndStraps := by
  cases p
  · rfl
  · exact queueAndStraps_of_traffic s.countTurnaround_traffic

/-! ### Management requests (chapters 1, 4 and 10) -/

/-- A request that finds a place is refused BUSY or served; only serving it could touch more than the list. -/
theorem takeAdmin_queueAndStraps {src code : Byte} {gated : Bool} {serve : State → Served}
    (h : ∀ u, (serve u).state.queueAndStraps = u.queueAndStraps) :
    (s.takeAdmin src code gated serve).queueAndStraps = s.queueAndStraps := by
  by_cases hroom : s.trunkOut.canReserve = true
  · rcases takeAdmin_taken hroom with hbusy | ⟨-, -, hanswered⟩
    · rw [hbusy]
      rfl
    · rw [hanswered]
      unfold Served.answered
      split <;> exact h s.reservePlace
  · rw [takeAdmin_turnedAway hroom, fillFreeOrDrop_queueAndStraps]

/-! A request that is served exchanges tables, records, ports or settings, or changes a coil by an operation of
coil protection. -/

section Serve
variable (args : List Byte)

theorem serveLoadCoil_queueAndStraps : (serveLoadCoil args s).state.queueAndStraps = s.queueAndStraps := by
  unfold serveLoadCoil
  repeat' split
  all_goals rfl

theorem serveLoadPoint_queueAndStraps : (serveLoadPoint args s).state.queueAndStraps = s.queueAndStraps := by
  unfold serveLoadPoint
  repeat' split
  all_goals rfl

theorem serveClearPoint_queueAndStraps : (serveClearPoint args s).state.queueAndStraps = s.queueAndStraps := by
  unfold serveClearPoint
  repeat' split
  all_goals rfl

theorem serveLoadRule_queueAndStraps : (serveLoadRule args s).state.queueAndStraps = s.queueAndStraps := by
  unfold serveLoadRule
  repeat' split
  all_goals rfl

theorem afterRuleRemoved_queueAndStraps (station channel : Nat) :
    (s.afterRuleRemoved station channel).queueAndStraps = s.queueAndStraps := by
  unfold State.afterRuleRemoved
  split <;> rfl

theorem serveClearRule_queueAndStraps : (serveClearRule args s).state.queueAndStraps = s.queueAndStraps := by
  unfold serveClearRule
  split
  · split
    · split
      · rfl
      · split
        · rfl
        · rename_i i _
          split
          · rfl
          · exact (afterRuleRemoved_queueAndStraps (s.withRules (s.rules.set i none)) _ _).trans rfl
    · rfl
  · rfl

theorem serveLoadRelaySet_queueAndStraps :
    (serveLoadRelaySet args s).state.queueAndStraps = s.queueAndStraps := by
  unfold serveLoadRelaySet
  dsimp only
  split <;> rfl

theorem serveEnableCoil_queueAndStraps : (serveEnableCoil args s).state.queueAndStraps = s.queueAndStraps := by
  unfold serveEnableCoil
  split
  · rfl
  · split
    · rfl
    · split
      · rfl
      · exact queueAndStraps_of_protection
          (sameOutsideProtection_trans (s.setCoil_same _ _) (State.enterStartup_same _ _))

theorem serveDisableCoil_queueAndStraps :
    (serveDisableCoil args s).state.queueAndStraps = s.queueAndStraps := by
  unfold serveDisableCoil
  split
  · rfl
  · split
    · rfl
    · split
      · rfl
      · exact queueAndStraps_of_protection (s.takeOffline_same _)

theorem serveResetCoil_queueAndStraps : (serveResetCoil args s).state.queueAndStraps = s.queueAndStraps := by
  unfold serveResetCoil
  split
  · split
    · split
      · rfl
      · split
        · rfl
        · split
          · rfl
          · exact queueAndStraps_of_protection (s.resetCoil_same _)
    · rfl
  · rfl

theorem serveSetPorts_queueAndStraps : (serveSetPorts args s).state.queueAndStraps = s.queueAndStraps := by
  unfold serveSetPorts
  split <;> rfl

theorem serveStatus_queueAndStraps : (serveStatus args s).state.queueAndStraps = s.queueAndStraps := by
  unfold serveStatus
  split
  · rfl
  · rename_i clear _
    cases clear <;> rfl

theorem serveReadCounters_queueAndStraps :
    (serveReadCounters args s).state.queueAndStraps = s.queueAndStraps := by
  unfold serveReadCounters
  split
  · rfl
  · rename_i clear _
    cases clear <;> rfl

theorem serveCommit_queueAndStraps (src : Byte) :
    (serveCommit src args s).state.queueAndStraps = s.queueAndStraps := by
  unfold serveCommit
  split <;> rfl

theorem serveRestart_queueAndStraps : (serveRestart args s).state.queueAndStraps = s.queueAndStraps := by
  unfold serveRestart
  split <;> rfl

variable (src : Byte)

theorem takeUnknown_queueAndStraps (code : Byte) :
    (s.takeUnknown src code).queueAndStraps = s.queueAndStraps := by
  unfold State.takeUnknown
  split
  · rfl
  · exact fillFreeOrDrop_queueAndStraps s _

/-- A management request, by its code (R171, R179). -/
@[simp] theorem takeAdminPayload_queueAndStraps (code : Byte) :
    (s.takeAdminPayload src code args).queueAndStraps = s.queueAndStraps := by
  unfold State.takeAdminPayload
  split
  · exact takeAdmin_queueAndStraps s fun u => serveLoadCoil_queueAndStraps u args
  · exact takeAdmin_queueAndStraps s fun u => serveLoadPoint_queueAndStraps u args
  · exact takeAdmin_queueAndStraps s fun u => serveClearPoint_queueAndStraps u args
  · exact takeAdmin_queueAndStraps s fun u => serveLoadRule_queueAndStraps u args
  · exact takeAdmin_queueAndStraps s fun u => serveClearRule_queueAndStraps u args
  · exact takeAdmin_queueAndStraps s fun u => serveLoadRelaySet_queueAndStraps u args
  · exact takeAdmin_queueAndStraps s fun u => serveEnableCoil_queueAndStraps u args
  · exact takeAdmin_queueAndStraps s fun u => serveDisableCoil_queueAndStraps u args
  · exact takeAdmin_queueAndStraps s fun u => serveResetCoil_queueAndStraps u args
  · exact takeAdmin_queueAndStraps s fun u => serveSetPorts_queueAndStraps u args
  · exact takeAdmin_queueAndStraps s fun u => serveStatus_queueAndStraps u args
  · exact takeAdmin_queueAndStraps s fun u => serveReadCounters_queueAndStraps u args
  · exact takeAdmin_queueAndStraps s fun u => serveCommit_queueAndStraps u args src
  · exact takeAdmin_queueAndStraps s fun u => serveRestart_queueAndStraps u args
  · exact takeAdmin_queueAndStraps s fun u => congrArg State.queueAndStraps (serveCoilDetail_state u args)
  · exact takeAdmin_queueAndStraps s fun u => congrArg State.queueAndStraps (serveReadPoints_state u args)
  · exact takeAdmin_queueAndStraps s fun u => congrArg State.queueAndStraps (serveReadActuator_state u args)
  · exact takeUnknown_queueAndStraps s src code

end Serve

/-! ### Telegrams and characters (R132 to R135) -/

@[simp] theorem takeGood_queueAndStraps (p : PortId) (t : Telegram) :
    (s.takeGood p t).queueAndStraps = s.queueAndStraps := by
  unfold State.takeGood
  cases p
  · dsimp only
    unfold State.trunkIntake
    split
    · simp
    · split <;> simp
  · simp

@[simp] theorem completeTelegram_queueAndStraps (p : PortId) (bytes : List Byte) :
    (s.completeTelegram p bytes).queueAndStraps = s.queueAndStraps := by
  unfold State.completeTelegram
  dsimp only
  split
  · simp
  · split <;> simp

@[simp] theorem assembleNext_queueAndStraps (p : PortId) (bytes : List Byte) (data : Byte) :
    (s.assembleNext p bytes data).queueAndStraps = s.queueAndStraps := by
  unfold State.assembleNext State.countLength
  dsimp only
  split
  · simp
  · split <;> simp

@[simp] theorem answerBegins_queueAndStraps (p : PortId) :
    (s.answerBegins p).queueAndStraps = s.queueAndStraps := by
  unfold State.answerBegins
  split
  · rfl
  · split <;> simp

@[simp] theorem countCharError_queueAndStraps (p : PortId) (isBreak : Bool) :
    (s.countCharError p isBreak).queueAndStraps = s.queueAndStraps := by
  simp [State.countCharError]

@[simp] theorem takeCharIn_queueAndStraps (p : PortId) (ch : LineChar) :
    (s.takeCharIn p ch).queueAndStraps = s.queueAndStraps := by
  unfold State.takeCharIn State.countLength
  split
  · split
    · simp
    · split <;> simp
  · split
    · simp
    · split <;> simp

@[simp] theorem takeChar_queueAndStraps (p : PortId) (ch : LineChar) :
    (s.takeChar p ch).queueAndStraps = s.queueAndStraps := by
  rw [takeChar_heard]
  exact (takeCharIn_queueAndStraps _ p ch).trans
    (updatePort_queueAndStraps s p (portHeard · ch.noise))

/-! ### RESTART, and the trunk transmitter (R146, R175) -/

/-- The recomputation of all records, whatever they were (R105, R106). -/
theorem recomputed_queueAndStraps (rs : List (Option ActuatorRecord)) :
    (s.withRecords rs).takeLevelsAndRecompute.queueAndStraps = s.queueAndStraps := rfl

theorem restartNow_queueAndStraps : s.restartNow.queueAndStraps = s.queueAndStraps := by
  have hcoils : s.coilsRestarted.queueAndStraps = s.restartedButCoils.queueAndStraps :=
    queueAndStraps_of_protection
      (sameOutsideProtection_foldl State.restartCoil restartCoil_same coilIds s.restartedButCoils)
  exact (recomputed_queueAndStraps s.coilsRestarted _).trans (hcoils.trans rfl)

theorem listHeadLeft_queueAndStraps : s.listHeadLeft.queueAndStraps = s.queueAndStraps := by
  unfold State.listHeadLeft
  split
  · rfl
  · rename_i first rest _
    cases first.role with
    | plain => rfl
    | setPorts => rfl
    | restart => exact restartNow_queueAndStraps (s.withTrunkOut { s.trunkOut with filled := rest })

@[simp] theorem trunkLeft_queueAndStraps (t : Transmission) :
    (s.trunkLeft t).queueAndStraps = s.queueAndStraps := by
  unfold State.trunkLeft
  dsimp only
  split
  · exact listHeadLeft_queueAndStraps _
  · rfl
  · rfl

/-! ### The idle line and samples (R122, R139, R140, R143) -/

@[simp] theorem lineIdles_queueAndStraps (p : PortId) :
    (s.lineIdles p).queueAndStraps = s.queueAndStraps := by
  have happlied (u : State) : (u.applyStaged p).queueAndStraps = u.queueAndStraps := by
    unfold State.applyStaged
    split
    · cases p
      · dsimp only
        split <;> rfl
      · dsimp only
        split
        · rfl
        · exact endIfReceiving_queueAndStraps _ _
    · rfl
  exact (happlied _).trans (updatePort_queueAndStraps s p _)

@[simp] theorem readBack_queueAndStraps (p : PortId) (t : Transmission) (l : Level) :
    (s.readBack p t l).queueAndStraps = s.queueAndStraps := by
  unfold State.readBack
  dsimp only
  split
  · cases p <;> simp
  · split
    · cases p <;> simp
    · split <;> simp

@[simp] theorem sampleChar_queueAndStraps (p : PortId) (c : CharSampler) (l : Level) :
    (s.sampleChar p c l).queueAndStraps = s.queueAndStraps := by
  unfold State.sampleChar
  dsimp only
  split
  · split
    · simp
    · split <;> simp
  · simp

@[simp] theorem receiveSpace_queueAndStraps (p : PortId) :
    (s.receiveSpace p).queueAndStraps = s.queueAndStraps := by
  unfold State.receiveSpace
  dsimp only
  split
  · simp
  · split <;> simp

@[simp] theorem countGap_queueAndStraps (p : PortId) :
    (s.countGap p).queueAndStraps = s.queueAndStraps := by
  unfold State.countGap
  split
  · rfl
  · split <;> simp

@[simp] theorem countIdle_queueAndStraps (p : PortId) :
    (s.countIdle p).queueAndStraps = s.queueAndStraps := by
  unfold State.countIdle
  split
  · simp
  · split <;> simp

@[simp] theorem receiveMark_queueAndStraps (p : PortId) :
    (s.receiveMark p).queueAndStraps = s.queueAndStraps := by
  unfold State.receiveMark
  rw [countIdle_queueAndStraps]
  split <;> simp

/-! ### The other commands -/

@[simp] theorem updatePoint_queueAndStraps (i : Nat) (f : PointEntry → PointEntry) :
    (s.updatePoint i f).queueAndStraps = s.queueAndStraps := by
  unfold State.updatePoint
  split <;> rfl

theorem leaveFallback_queueAndStraps : s.leaveFallback.queueAndStraps = s.queueAndStraps := by
  unfold State.leaveFallback
  split
  · exact (queueAndStraps_of_protection (State.deriveTripOutput_same _)).trans rfl
  · rfl

/-- No command faults, is refused or waits: each answers a next state. -/
theorem exec_completes (c : Instr) : ∃ t, exec c s = .next t := by
  cases c <;> exact ⟨_, rfl⟩

theorem exec_request_payload {c : Instr} {src code : Byte} (h : adminRequest c = some (src, code)) :
    ∃ args, exec c s = .next (s.takeAdminPayload src code args) := by
  obtain ⟨args, hargs⟩ : ∃ args, adminArgs c = some args := by
    cases c <;> cases h <;> exact ⟨_, rfl⟩
  exact ⟨args, exec_eq_takeAdminPayload h hargs s⟩

/-- An event other than a power-on leaves the queue and the straps. -/
theorem exec_event_queueAndStraps {c : Instr} {t : State} (hevent : adminRequest c = none)
    (hpower : ∀ v, c ≠ .powerOnReset v) (h : exec c s = .next t) : t.queueAndStraps = s.queueAndStraps := by
  cases c <;> cases hevent <;> cases h
  case powerOnReset v => exact absurd rfl (hpower v)
  case commitWriteEnd success =>
    split
    · rfl
    · split
      · exact leaveFallback_queueAndStraps _
      · rfl
  case characterReceived p ch => split <;> simp
  case gapTimerExpiry p => split <;> simp
  case telegramComplete p last noise => split <;> simp
  case responseTimeout => split <;> simp
  case turnaroundEnd => split <;> rfl
  case lineIdleEvent p => split <;> simp
  case branchGrant =>
    split
    · split <;> simp
    · rfl
  case trunkTransmissionBegin =>
    split
    · split
      · rfl
      · split <;> rfl
    · rfl
  case collision => split <;> simp
  case branchLineFault => split <;> simp
  case trunkTransmissionComplete => split <;> simp
  case branchTransmissionComplete => split <;> simp
  case evaluation c =>
    split
    · exact queueAndStraps_of_protection (s.evaluateCoil_same c)
    · rfl
  case debouncedContactChange i newState =>
    split
    · exact (queueAndStraps_of_protection (State.handContactChange_same _ i)).trans rfl
    · rfl
  case contactSettling =>
    split
    · rfl
    · exact (queueAndStraps_of_protection (State.deriveTripOutput_same _)).trans rfl
  case debouncedSenseChange high =>
    split
    · rfl
    · exact queueAndStraps_of_protection (s.changeSense_same high)
  case releaseTimerExpiry => exact queueAndStraps_of_protection s.expireRelease_same
  case pointAgeExpiry i => simp
  case pollTimerExpiry i => simp
  case refreshTimerExpiry i =>
    split
    · rfl
    · split <;> rfl
  case tick pins high =>
    exact (queueAndStraps_of_protection (State.handTick_same _ _ _)).trans rfl
  case plantClockIncrement => split <;> rfl
  case sampleAtSpace p =>
    dsimp only
    split <;> simp
  case sampleAtMark p =>
    dsimp only
    split <;> simp
  case breakEnd => split <;> simp

/-- Every command but a power-on leaves the queue and the straps: a request, or an event. -/
theorem exec_queueAndStraps {c : Instr} {t : State} (hpower : ∀ v, c ≠ .powerOnReset v)
    (h : exec c s = .next t) : t.queueAndStraps = s.queueAndStraps := by
  cases hrequest : adminRequest c with
  | none => exact exec_event_queueAndStraps s hrequest hpower h
  | some request =>
    obtain ⟨args, hexec⟩ := exec_request_payload s hrequest
    cases hexec.symm.trans h
    exact takeAdminPayload_queueAndStraps s args _ _

/-! ### Power-on (R187, R188, R190) -/

/-- A power-on samples the straps and leaves the queue, whether or not an image passes. -/
theorem exec_powerOnReset_queueAndStraps {v : BitVec 5} {t : State} (h : exec (.powerOnReset v) s = .next t) :
    t.queueAndStraps = (s.pending, v) := by
  cases h
  split
  · rename_i image _
    have hcoils : (coilIds.foldl State.bringUp (s.powerOnTables v image)).queueAndStraps =
        (s.powerOnTables v image).queueAndStraps :=
      queueAndStraps_of_protection (sameOutsideProtection_foldl State.bringUp bringUp_same coilIds _)
    exact (recomputed_queueAndStraps (coilIds.foldl State.bringUp (s.powerOnTables v image)) _).trans
      (hcoils.trans rfl)
  · rfl

/-- The own address is 200 and the value of the straps: five bits do not reach the end of a byte (R190). -/
theorem ownAddress_toNat : s.ownAddress.toNat = 200 + s.straps.toNat := by
  have hstraps := s.straps.isLt
  exact toNat_byte (by omega)

/-- Settles O2: the power-on on its own, and every other command. -/
theorem commandsCompleteAndKeepQueueAndStraps : Obligations.CommandsCompleteAndKeepQueueAndStraps := by
  intro c s
  obtain ⟨t, hexec⟩ := exec_completes s c
  refine ⟨t, hexec, ?_⟩
  by_cases hpower : ∃ v, c = .powerOnReset v
  · obtain ⟨v, rfl⟩ := hpower
    obtain ⟨hpending, hstraps⟩ := Prod.mk.inj (exec_powerOnReset_queueAndStraps s hexec)
    exact ⟨hpending, hstraps, hstraps ▸ ownAddress_toNat t⟩
  · have hother : ∀ v, c ≠ .powerOnReset v := not_exists.mp hpower
    obtain ⟨hpending, hstraps⟩ := Prod.mk.inj (exec_queueAndStraps s hother hexec)
    refine ⟨hpending, ?_⟩
    split
    · exact absurd rfl (hother _)
    · exact hstraps

end Sys2Proof.Machine
end

section
/-! The queue of commands at a step (O1, log 2): the two equations of `step`, by the queue. -/

namespace Sys2Proof.Machine

theorem step_of_pending_nil {s : State} (h : s.pending = []) : step s = .next s := by
  rw [step, h]

theorem step_of_pending_cons {s : State} {c : Instr} {rest : List Instr} (h : s.pending = c :: rest) :
    step s = exec c (s.withPending rest) := by
  rw [step, h]

/-- Settles O1: by the queue, with a command at its front or empty. -/
theorem stepTakesTheFrontCommand : Obligations.StepTakesTheFrontCommand :=
  fun _ _ _ => ⟨step_of_pending_cons, step_of_pending_nil⟩

end Sys2Proof.Machine
end
